-- ==== Sys2Proof/Word.lean ====
section
/-! DEFINITION. The widths of the LV740: bytes, 32-bit words, lane numbers, tags, and a collection of four (one entry for
each lane, or for each class). -/

namespace Sys2Proof

/-- One byte of memory or of the head link. -/
abbrev Byte := BitVec 8

/-- A 32-bit word: a register, an address of board memory, a number kept modulo 2^32. -/
abbrev Word := BitVec 32

/-- A lane number, 0 to 3 (also a class, 0 to 3). -/
abbrev LaneId := Fin 4

/-- A tag by which a lane names a kept slot, 0 to 7. -/
abbrev Tag := Fin 8

/-- Bytes of board memory that changed by anything but a write of the part which the model carries out: stores by the host,
or what a faulted or interrupted write left behind (log 2). Later entries win. -/
abbrev Stores := List Host.Cell

/-- The four lanes (or classes) in ascending order. -/
def allLanes : List LaneId := [0, 1, 2, 3]

/-- One value for each of the four lanes, or for each of the four classes. -/
structure Four (α : Type) where
  c0 : α
  c1 : α
  c2 : α
  c3 : α
deriving DecidableEq, Repr

/-- The entry of number `i`. -/
def Four.get {α : Type} (q : Four α) (i : LaneId) : α :=
  match i with
  | 0 => q.c0
  | 1 => q.c1
  | 2 => q.c2
  | 3 => q.c3

/-- Replace the entry of number `i`. -/
def Four.set {α : Type} (q : Four α) (i : LaneId) (x : α) : Four α :=
  match i with
  | 0 => { q with c0 := x }
  | 1 => { q with c1 := x }
  | 2 => { q with c2 := x }
  | 3 => { q with c3 := x }

/-- Change the entry of number `i`. -/
def Four.modify {α : Type} (q : Four α) (i : LaneId) (f : α → α) : Four α :=
  q.set i (f (q.get i))

/-- Change every entry. -/
def Four.map {α β : Type} (q : Four α) (f : α → β) : Four β :=
  ⟨f q.c0, f q.c1, f q.c2, f q.c3⟩

/-- The same value four times. -/
def Four.all {α : Type} (x : α) : Four α :=
  ⟨x, x, x, x⟩

end Sys2Proof
end

