-- ==== Sys2Proof/Syntax.lean ====
section
/-! DEFINITION. The commands of the LV740: one constructor for each row of spec/opcode_table.json, with what the row's event
brings from outside the part as its operands. -/

namespace Sys2Proof

/-- The five odometer inputs (03, section 3.2). -/
inductive Input where
  | a1 | b1 | a2 | b2 | dir
deriving DecidableEq, Repr

/-- The levels of the five odometer inputs, true for high. -/
structure PinLevels where
  a1 : Bool
  b1 : Bool
  a2 : Bool
  b2 : Bool
  dir : Bool
deriving DecidableEq, Repr

/-- The two encoder wheels. -/
inductive Wheel where
  | one | two
deriving DecidableEq, Repr

/-- What a filter expiry accepts: one input's new level, or both channels of one wheel in the same instant, as one change of
the pair (R40). -/
inductive Edge where
  | single (i : Input)
  | both (w : Wheel)
deriving DecidableEq, Repr

/-- How a read of board memory ended. `arrived` carries the stores that memory took before the read (log 2). -/
inductive ReadEnd where
  | arrived (stores : Stores)
  | faulted
deriving DecidableEq, Repr

/-- How a write to board memory ended. `faulted` carries what the write left behind in memory (log 2). -/
inductive WriteEnd where
  | landed
  | faulted (left : Stores)
deriving DecidableEq, Repr

/-- What memory does around a row's raw reads (R115; log 16). `stores`: taken before them; `during`: taken from then to the row's
end; `seen`: for each raw read of the row, how many of the latter memory had taken when it read. -/
structure RowReads where
  stores : Stores
  during : Stores
  seen : List Nat
deriving DecidableEq, Repr

/-- The access that a map fault met (R155). -/
inductive MapAccess where
  | stagingWrite | stagingRead | sinkWrite
deriving DecidableEq, Repr

/-- The commands. Each names its row by the spec's words; the rule is the row's own. -/
inductive Instr where
  /-- POWER_ON (R49). `pins`: the levels the odometer inputs have when power becomes good (R39). -/
  | powerOn (pins : PinLevels)
  /-- BOARD_RESET (R19). `left`: what writes on the bus at the reset left in memory. -/
  | boardReset (left : Stores)
  /-- REGISTER_WRITE_IGNORED (R1). A write of `value` at byte offset `offset` with byte enables `enables`. -/
  | registerWriteIgnored (offset : BitVec 5) (enables : BitVec 4) (value : Word)
  /-- ANCHOR (R4): a full-width write of `value` to ANCHOR. -/
  | anchor (value : Word)
  /-- SETTINGS_LOAD_END (R5). `timers`: for the running filter timers, in the order their edges would be taken, how long in
  microseconds each pin has held its new level (R38). -/
  | settingsLoadEnd (read : ReadEnd) (timers : List (Edge × Nat))
  /-- ATTENTION_WRITE (R17): a full-width write of `value` to ATTENTION. -/
  | attentionWrite (value : Word)
  /-- ATTENTION_READ (R18): a read of ATTENTION with byte enables `enables` (R1, partial reads). -/
  | attentionRead (enables : BitVec 4)
  /-- START (R7). -/
  | start (lane : LaneId)
  /-- RESUME (R8). -/
  | resume (lane : LaneId)
  /-- HALT (R9). -/
  | halt (lane : LaneId)
  /-- CLEAR (R10). -/
  | clear (lane : LaneId)
  /-- TAKE (R12). -/
  | take (lane : LaneId)
  /-- HOLD (R178). -/
  | hold (lane : LaneId)
  /-- STEP (R184). -/
  | stepOrder (lane : LaneId)
  /-- GO (R183). -/
  | go (lane : LaneId)
  /-- SNAP (R185). -/
  | snap (lane : LaneId)
  /-- DUMP (R187). -/
  | dump (lane : LaneId)
  /-- SNAP_WRITE_END (R188): a bus write of the next `count` bytes of the snapshot ended. -/
  | snapWriteEnd (count : Nat) (write : WriteEnd)
  /-- DUMP_WRITE_END (R188): a bus write of the next `count` bytes of the dump ended. -/
  | dumpWriteEnd (count : Nat) (write : WriteEnd)
  /-- STATUS_RECORD_WRITE_END (R15): the oldest status record write in flight for `lane` ended. -/
  | statusRecordWriteEnd (lane : LaneId) (write : WriteEnd)
  /-- LANE_BLOCK_READ_END (R7). -/
  | laneBlockReadEnd (lane : LaneId) (read : ReadEnd)
  /-- STEP_FETCH (R23). -/
  | stepFetch (lane : LaneId) (read : ReadEnd)
  /-- GEOMETRY (R87). -/
  | geometry (lane : LaneId)
  /-- LENS (R87). -/
  | lens (lane : LaneId)
  /-- SHADE (R87). -/
  | shade (lane : LaneId)
  /-- TONE (R87). -/
  | tone (lane : LaneId)
  /-- GLARE (R87). -/
  | glare (lane : LaneId)
  /-- TABLE_READ_END (R89). -/
  | tableReadEnd (lane : LaneId) (read : ReadEnd)
  /-- POSE (R97). -/
  | pose (lane : LaneId)
  /-- BEGIN (R131). -/
  | beginSurvey (lane : LaneId)
  /-- SINK (R144). -/
  | sink (lane : LaneId)
  /-- MARK (R149). -/
  | mark (lane : LaneId)
  /-- END (R151). -/
  | endSurvey (lane : LaneId)
  /-- EXPOSE (R164). -/
  | expose (lane : LaneId)
  /-- KEEP (R167). -/
  | keep (lane : LaneId)
  /-- RELEASE (R168). -/
  | release (lane : LaneId)
  /-- RENDER (R169). -/
  | render (lane : LaneId)
  /-- JUMP (R29). -/
  | jump (lane : LaneId)
  /-- STOP (R30). -/
  | stop (lane : LaneId)
  /-- DONE_WORD_WRITE_END (R21): of the done words in flight for `lane`, oldest first, number `nth` ended (log 28). -/
  | doneWordWriteEnd (lane : LaneId) (nth : Nat) (write : WriteEnd)
  /-- CLEARING_END (R11). -/
  | clearingEnd (lane : LaneId)
  /-- HOLD_REACHED (R179). -/
  | holdReached (lane : LaneId)
  /-- INPUT_PIN_CHANGE (R38): the pin of `input` takes `level`. -/
  | inputPinChange (input : Input) (level : Bool)
  /-- ACCEPTED_EDGE (R38). -/
  | acceptedEdge (edge : Edge)
  /-- STROBE_END (R52). `millivolts`: the supply at that moment (R64). -/
  | strobeEnd (millivolts : Nat)
  /-- SUPPLY_TICK (R64). -/
  | supplyTick (millivolts : Nat)
  /-- HEAD_FRAME_START (R69): the head sends 0xF0. -/
  | headFrameStart
  /-- HEAD_LINE (R70): the head sends 0xF1 and `bytes`, the token after its type byte: line number, packed pixels, CRC (R68). -/
  | headLine (bytes : List Byte)
  /-- HEAD_FRAME_END (R74): the head sends 0xF2. `outstanding`: some line write of the frame has not ended yet. -/
  | headFrameEnd (outstanding : Bool)
  /-- UNKNOWN_BYTE (R68): the head sends `byte`. -/
  | unknownByte (byte : Byte)
  /-- READOUT_TIMEOUT (R73). -/
  | readoutTimeout
  /-- SLOT_WRITE_FAULT (R72). -/
  | slotWriteFault (left : Stores)
  /-- FRAME_COMPLETE (R74). -/
  | frameComplete
  /-- RENDER_GRANT (R162). `stores`: taken by memory before the first committed row's staging read. -/
  | renderGrant (stores : Stores)
  /-- COLUMN_TABLE_END (R102). -/
  | columnTableEnd
  /-- ROW_FINISHED (R115, R126). -/
  | rowFinished (reads : RowReads)
  /-- SOURCE_FAULT (R116). -/
  | sourceFault
  /-- ROW_COMMIT_END (R146): the sink write of the row being committed for `lane`'s survey landed. -/
  | rowCommitEnd (lane : LaneId) (stores : Stores)
  /-- DRAIN_BEGIN (R152). -/
  | drainBegin (stores : Stores)
  /-- MAP_FAULT (R155): an access for the survey of `lane` faulted. -/
  | mapFault (lane : LaneId) (access : MapAccess) (left : Stores)
  /-- PATCH_ROW_WRITE_END (R171). -/
  | patchRowWriteEnd (write : WriteEnd)
  /-- INVALID_ORDER (R2): a full-width ORDER write with this lane field and order code. -/
  | invalidOrder (laneField : BitVec 3) (code : BitVec 8)
  /-- SLOT_LINE_WRITES_ENDED (R74). -/
  | slotLineWritesEnded
deriving DecidableEq, Repr

end Sys2Proof
end

