-- ==== Sys2Proof/Machine/Forms.lean ====
section
/-! DEFINITION. Which operands belong to which row, where a row does not take every value of its operands: shared by
WellFormed.lean, the decoder and the meanings. -/

namespace Sys2Proof.Machine

/-- A write that the port ignores: a partial write, or one to a read-only or unused offset (R1). -/
abbrev ignoredWrite (offset : BitVec 5) (enables : BitVec 4) : Prop :=
  enables ≠ 0xF#4 ∨ offset.toNat / 4 ∈ [0, 3, 5, 6, 7]

/-- An ORDER write's lane field and order code that fail the first screening test (R2). -/
abbrev invalidOrderFields (laneField : BitVec 3) (code : BitVec 8) : Prop :=
  3 < laneField.toNat ∨ code.toNat = 0 ∨ 10 < code.toNat

/-- The bytes that follow the type byte of a line token: 3 Ws / 2 + 4 (R68). -/
def lineTokenLength (ws : Nat) : Nat := 3 * ws / 2 + 4

/-- A type byte of the head link: frame start, line or frame end (R68). -/
abbrev typeByte (b : Byte) : Prop := b = 0xF0 ∨ b = 0xF1 ∨ b = 0xF2

end Sys2Proof.Machine
end

