-- ==== Sys2Proof/Decode.lean ====
section
/-! DEFINITION. Decoding. A write to the register window spells a command (R1, R2). By the table's bits no word spells one: every
row of spec/opcode_table.json has an empty field list (log 29). -/

namespace Sys2Proof

/-! ## Writes to the register window (R1, R2) -/

/-- The order that a lane field and an order code name; a lane field above 3, or a code that is none of the ten, is no order
(R2, the ORDER field table). -/
def decodeOrderFields (laneField : BitVec 3) (code : BitVec 8) : Instr :=
  if h : laneField.toNat < 4 then
    let l : LaneId := ⟨laneField.toNat, h⟩
    match code.toNat with
    | 1 => .start l
    | 2 => .resume l
    | 3 => .halt l
    | 4 => .clear l
    | 5 => .take l
    | 6 => .hold l
    | 7 => .stepOrder l
    | 8 => .go l
    | 9 => .snap l
    | 10 => .dump l
    | _ => .invalidOrder laneField code
  else .invalidOrder laneField code

/-- The order that a full-width write of `w` to ORDER gives: the lane in bits 2:0, the order code in bits 15:8, every other bit
ignored (R2, the ORDER field table). -/
def decodeOrder (w : Word) : Instr := decodeOrderFields (w.extractLsb' 0 3) (w.extractLsb' 8 8)

/-- The command that a write to the register window is: ignored when partial, or at a register that takes no write (R1). -/
def decodeWrite (offset : BitVec 5) (enables : BitVec 4) (value : Word) : Instr :=
  if enables ≠ 0xF#4 then .registerWriteIgnored offset enables value
  else match offset.toNat / 4 with
    | 1 => .anchor value
    | 2 => decodeOrder value
    | 4 => .attentionWrite value
    | _ => .registerWriteIgnored offset enables value

/-! ## The table's bits -/

/-- The command a word spells: none, for every word (log 29). -/
def decodeTableWord (_nbits _w : Nat) : Option Instr := none

end Sys2Proof
end

