-- ==== Sys2Proof/Config.lean ====
section
/-! DEFINITION. What is fixed in every LV740 of this revision. The spec leaves no result of an accepted command undefined,
so there is no free value here. -/

namespace Sys2Proof.Config

/-- IDENT: part 740, silicon revision 1.3 (R1). -/
def ident : Word := 0x07400103

/-- What a byte of board memory reads as when nothing has written it. DESIGN CHOICE, unsafe: the spec says nothing of the
board memory's contents after power-on (log 1). -/
def unlistedByte : Byte := 0

/-- The most sinks in the sink queue (R145). -/
def sinkLimit : Nat := 8

/-- The most markers in the marker queue (R150). -/
def markerLimit : Nat := 16

/-- The row slots of the map, and the deepest window (R92, R133). -/
def rowSlots : Nat := 512

/-- Filter time of a filter code, in microseconds (R38). -/
def filterTimeUs (code : Nat) : Nat :=
  match code with
  | 0 => 2
  | 1 => 8
  | 2 => 32
  | _ => 128

/-- Derate threshold Vd of a derate code, in millivolts (04, section 4.6). -/
def derateMillivolts (code : Nat) : Nat := 18000 + 500 * code

/-- Cutoff threshold Vc of a cutoff code, in millivolts (04, section 4.6). -/
def cutoffMillivolts (code : Nat) : Nat := 16000 + 500 * code

end Sys2Proof.Config
end

