-- ==== Sys2Proof/Machine/State.lean ====
section
/-! DEFINITION. The state of the LV740: every piece of state the spec gives the part, as plain data, and its value after
power-on. Marks stand where a value is not the spec's. -/

namespace Sys2Proof.Machine

/-- Board memory, as the bytes that differ from `Config.unlistedByte`, addresses strictly rising and below 2^32. -/
abbrev Memory := List Host.Cell

/-! ## Order port (chapter 1) -/

/-- Result codes (1.1). -/
inductive ResultCode where
  | accepted | pending | busy | unconfigured | invalid
deriving DecidableEq, Repr

/-- Configuration states (1.1). -/
inductive ConfigState where
  | unconfigured | loading | configured
deriving DecidableEq, Repr

/-- Which inspection record is being written (R185). -/
inductive InspectKind where
  | snap | dump
deriving DecidableEq, Repr

/-- A snapshot or dump whose bytes are not all written: runs of bytes still to write, first run first (R185, R187). -/
structure Inspection where
  kind : InspectKind
  parts : List (Word × List Byte)
deriving DecidableEq, Repr

/-- The order port. `answer` is what the last ATTENTION read returned; `held` are the accesses for which ready is withheld
(R13). -/
structure Port where
  anchor : Word
  result : ResultCode
  config : ConfigState
  settingsError : Nat
  mask : BitVec 4
  recordFault : Bool
  queues : Four (List LaneId)
  answer : Word
  held : List Instr
  inspection : Option Inspection
deriving DecidableEq, Repr

/-! ## Render contexts (chapter 6) -/

/-- The geometry record (R90). -/
structure Geometry where
  radius : Nat
  ex : Int
  ey : Int
  roll : Nat
  width : Nat
  zNear : Nat
  zFar : Nat
  rowPitch : Nat
  glareWeight : Nat
  cx : Nat
  cy : Nat
  ws : Nat
  hs : Nat
  dRef : Nat
  baseGain : Nat
  gainLimit : Nat
  glareCode : Byte
  outCode : Byte
deriving DecidableEq, Repr

/-- The camera pose (R97). -/
structure Pose where
  ex : Int
  ey : Int
  roll : Nat
deriving DecidableEq, Repr

/-- One lane's render context (R85). An entry past a table's end reads as zero, so the empty tables of power-on are tables of
zeros (R86). -/
structure Context where
  geometry : Geometry
  geometryValid : Bool
  pose : Pose
  lens : List (Nat × Nat)
  lensValid : Bool
  shade : List Nat
  shadeValid : Bool
  tone : List Byte
  toneValid : Bool
  glare : List Byte
  glareValid : Bool
deriving DecidableEq, Repr

/-! ## Lanes (chapters 1, 2 and 11) -/

/-- Lane states (R22). -/
inductive LaneState where
  | idle | starting | running | suspended | held | draining | clearing
deriving DecidableEq, Repr

/-- Completion codes (R14). -/
inductive Completion where
  | none | normal | halted | check | fault | cleared | drainStarved | cutoff
deriving DecidableEq, Repr

/-- Check codes (R32). -/
inductive CheckCode where
  | none | stepCode | operand | context | locked | surveyBusy | surveyOpen | noSurvey | suspend | hold | jumpChain
  | memory | depth | sourceSize | keepLimit | tagUnknown | tagInUse | nothingToKeep
deriving DecidableEq, Repr

/-- Status kinds (1.4). -/
structure Kinds where
  alert : Bool := false
  intermediate : Bool := false
  primary : Bool := false
  secondary : Bool := false
  pending : Bool := false
deriving DecidableEq, Repr

/-- Intermediate reasons (1.4). -/
structure Reasons where
  initial : Bool := false
  note : Bool := false
  suspended : Bool := false
  held : Bool := false
  starved : Bool := false
deriving DecidableEq, Repr

/-- Options taken at START (R7). -/
structure Options where
  initial : Bool := false
  quiet : Bool := false
  suspendPermit : Bool := false
  holdPermit : Bool := false
  holdRowValid : Bool := false
deriving DecidableEq, Repr

/-- The eleven lane counters, each 32-bit and saturating (R14). -/
structure Counters where
  rendered : Nat := 0
  starved : Nat := 0
  damaged : Nat := 0
  faulted : Nat := 0
  coalesced : Nat := 0
  withheldSupply : Nat := 0
  withheldHeld : Nat := 0
  committed : Nat := 0
  gaps : Nat := 0
  unplaced : Nat := 0
  discarded : Nat := 0
deriving DecidableEq, Repr

/-- A lane's copy of a fetched step: code, flags and the operand bytes 16 to 31 (R20). -/
structure StepWord where
  code : Byte
  flags : Byte
  operands : List Byte
deriving DecidableEq, Repr

/-- Done codes (R21). -/
inductive DoneCode where
  | none | done | exception | abandoned | checked
deriving DecidableEq, Repr

/-- What follows when the done word of the lane's own step has been written (R27, R30, R31, R154, R173). -/
inductive After where
  /-- Advance by 32 to a step boundary. -/
  | advance
  /-- Raise ALERT, then advance (R173, R174). -/
  | advanceAlert
  /-- Completion code DRAIN_STARVED and ALERT, then advance (R154). -/
  | advanceStarved
  /-- Go to the jump target (R29). -/
  | jump (target : Word)
  /-- End the program NORMAL (R30). -/
  | stop
  /-- End the program CHECK (R31). -/
  | check (code : CheckCode)
deriving DecidableEq, Repr

/-- Where a lane's interpreter stands. -/
inductive Stage where
  /-- Nothing is being fetched or taken. -/
  | rest
  /-- The lane-block read of START is in progress (R7). -/
  | blockRead
  /-- A step fetch is in progress (R23). -/
  | fetch
  /-- At a step boundary with HOLD_PENDING, waiting for its hold or held there (R179). -/
  | boundary
  /-- In front of a fetched HOLD-flagged step, waiting for its hold or held there (R180). -/
  | tagged (w : StepWord)
  /-- A step has been examined and is about to be taken (R25, R26). -/
  | take (w : StepWord)
  /-- Waiting for a table read of `len` bytes (R87). -/
  | tableRead (w : StepWord) (len : Nat)
  /-- Waiting for room in the sink queue (R144). -/
  | sinkWait (w : StepWord)
  /-- Waiting for room in the marker queue (R149). -/
  | markWait (w : StepWord)
  /-- Waiting for the drain (R151). -/
  | endWait (w : StepWord)
  /-- Waiting for the head (R164). -/
  | exposeWait (w : StepWord)
  /-- Waiting for the frame of an exposure in flight (R165). -/
  | exposeFlight (w : StepWord)
  /-- Waiting for the rectifier or for the render (R169). -/
  | renderWait (w : StepWord)
  /-- The step has ended and its done word is being written (R21, log 8). -/
  | doneWrite (after : After)
  /-- SUSPENDED again within the STEP that took the lane out of a tagged hold, while the render grant made as it left HELD is still
  to come (R161, R184; log 20). -/
  | leftHold
deriving DecidableEq, Repr

/-- Hold positions (11.1). -/
inductive HoldPosition where
  | boundary | tagged | suspended
deriving DecidableEq, Repr

/-- A read in flight whose data a CLEAR discards (R11). -/
inductive DiscardedRead where
  | block | table
deriving DecidableEq, Repr

/-- One lane interpreter with its status and its render context. -/
structure Lane where
  state : LaneState
  stage : Stage
  programAddr : Word
  lastStep : Word
  cls : LaneId
  options : Options
  holdRow : Int
  dumpAddr : Word
  haltPending : Bool
  resumePending : Bool
  holdPending : Bool
  holdPosition : Option HoldPosition
  holdPass : Bool
  afterJump : Bool
  discarding : Option DiscardedRead
  completion : Completion
  check : CheckCode
  statusPending : Bool
  kinds : Kinds
  reasons : Reasons
  notes : Nat
  recordSeq : Word
  snapSeq : Word
  counters : Counters
  context : Context
deriving DecidableEq, Repr

/-! ## Odometer (chapter 3) -/

/-- Wheel modes (3.3). -/
inductive WheelMode where
  | off | quad | pulse
deriving DecidableEq, Repr

/-- The odometer (3.1). A filter timer runs exactly while its pin differs from the accepted level (R38). -/
structure Odometer where
  pins : PinLevels
  accepted : PinLevels
  pair1 : Bool × Bool
  pair2 : Bool × Bool
  mode1 : WheelMode
  mode2 : WheelMode
  filterCode : Nat
  scale : Nat
  slipLimit : Nat
  w1 : Int
  w2 : Int
  p : Int
  phase1 : Nat
  phase2 : Nat
  slipCount : Nat
  slipFlag : Bool
  saturated : Bool
deriving DecidableEq, Repr

/-! ## Exposure and supply (chapter 4) -/

/-- Supply states (R64). -/
inductive SupplyState where
  | normal | derate | cutoff
deriving DecidableEq, Repr

/-- The supply monitor (R64). -/
structure Supply where
  state : SupplyState
  good : Nat
  derateCode : Nat
  cutoffCode : Nat
deriving DecidableEq, Repr

/-- The survey trigger (R58). -/
structure Trigger where
  armed : Option LaneId
  pitch : Nat
  lReq : Nat
  tReq : Nat
  hw : Option Int
  pending : Bool
deriving DecidableEq, Repr

/-- The exposure controller (R52, R54). `inFlight` is the slot of the exposure in flight. -/
structure Exposure where
  seq : Word
  inFlight : Option Nat
  strobe : Bool
  led : Nat
  ledCap : Nat
  timeCeiling : Nat
deriving DecidableEq, Repr

/-- Kinds of exposure, frame and render request. -/
inductive FrameKind where
  | survey | patch
deriving DecidableEq, Repr

/-- The exposure record (R57). -/
structure ExposureRecord where
  seq : Word
  kind : FrameKind
  lane : LaneId
  p : Int
  pos : Int
  lReq : Nat
  lUsed : Nat
  tReq : Nat
  tUsed : Nat
  e : Nat
  derate : Bool
  derated : Bool
  timeClipped : Bool
  slip : Bool
deriving DecidableEq, Repr

/-! ## Frame intake and frame slots (chapter 5) -/

/-- Receiver phases (R69). -/
inductive Phase where
  | idle | integrating | awaitingStart | receiving
deriving DecidableEq, Repr

/-- Where the link receiver stands among the head's bytes (R68). Inside a line token `left` bytes of it are still to come and
`taken` are those that came after its type byte, the newest first; at the start of a token `left` is 0. -/
structure Framing where
  left : Nat
  taken : List Byte
deriving DecidableEq, Repr

/-- The start of a token: the next byte is a type byte (R68). -/
def Framing.start : Framing := ⟨0, []⟩

/-- How far a frame's completion has come (R74). -/
inductive FrameCompletion where
  | none | lineWrites | headerWrite
deriving DecidableEq, Repr

/-- Frame intake: its settings and the head-link receiver (R68, R69, R73, R84). `damaged` says that damage has been decided while
INTEGRATING and is reported at strobe end (R75). -/
structure Intake where
  slotCount : Nat
  slotArea : Word
  ws : Nat
  hs : Nat
  timeoutMs : Nat
  repairLimit : Nat
  phase : Phase
  expected : Nat
  repaired : Nat
  lineBuffer : List Nat
  stray : Nat
  timeoutRunning : Bool
  damaged : Bool
  completion : FrameCompletion
  framing : Framing
deriving DecidableEq, Repr

/-- Slot states (R78). -/
inductive SlotState where
  | free | filling | ready | rendering | done | kept
deriving DecidableEq, Repr

/-- One frame slot (R76). -/
structure Slot where
  state : SlotState
  record : Option ExposureRecord
  binding : Option (LaneId × Tag)
  inUse : Bool
  releasePending : Bool
  orphan : Bool
deriving DecidableEq, Repr

/-- A FREE slot: no frame, no binding, all marks clear (R77, R84). -/
def Slot.empty : Slot :=
  { state := .free, record := none, binding := none, inUse := false, releasePending := false, orphan := false }

/-! ## Rectifier and render arbiter (chapters 7, 8 and 10) -/

/-- A RENDER step's operands (R169). -/
structure PatchOps where
  k0 : Nat
  tag : Tag
  cols : Nat
  rows : Nat
  pitch : Nat
  zStart : Nat
  stride : Nat
  dest : Word
deriving DecidableEq, Repr

/-- A request in the arbiter's list (R158). -/
inductive Request where
  | survey (lane : LaneId) (slot : Nat)
  | patch (lane : LaneId) (ops : PatchOps)
deriving DecidableEq, Repr

/-- One entry of the column table (R102). -/
structure Column where
  angle : Nat
  dx : Int
  dy : Int
  rho : Int
deriving DecidableEq, Repr

/-- The four counts of a row, or the four render totals (R125, R126). -/
structure RowCounts where
  glare : Nat := 0
  clip : Nat := 0
  out : Nat := 0
  limited : Nat := 0
deriving DecidableEq, Repr

/-- What a render works through: map rows `next` to `last` (R105), or patch rows from `next` (R106). -/
inductive RenderJob where
  | survey (last : Int) (next : Int)
  | patch (ops : PatchOps) (next : Nat)
deriving DecidableEq, Repr

/-- A render in progress, with what it took at render start (R98, R162). `columns` is none while the column table is being
built; `writing` is the patch row whose destination write is in flight (R171); `stopping` is set by CLEAR (R127). -/
structure Render where
  job : RenderJob
  lane : LaneId
  slot : Nat
  context : Context
  pos : Int
  e : Nat
  seq : Word
  derated : Bool
  slip : Bool
  columns : Option (List Column)
  writing : Option (Word × List Byte)
  stopping : Bool
deriving DecidableEq, Repr

/-- The rectifier (R126 to R128). The scratch row is the codes of the row last finished; a place past them is read by nothing and
stands for 0, so that the empty list of a reset is a scratch row of zeros (DESIGN CHOICE, log 58). `counts` are the four counts
of the row last finished: they stand until the next row finishes, and the zeros at a row's start (R125) and the counts of a row in
progress, which nothing reads, are not held (DESIGN CHOICE, log 58). -/
structure Rectifier where
  render : Option Render
  scratch : List Byte
  counts : RowCounts
  totals : RowCounts
deriving DecidableEq, Repr

/-! ## The wall map (chapter 9) -/

/-- The record of an OPEN row slot (R133). -/
structure RowRecord where
  row : Int
  score : Int
  z : Int
  counts : RowCounts
  seq : Word
  pos : Int
  derated : Bool
  slip : Bool
deriving DecidableEq, Repr

/-- The frontier F and the highest open row h, defined together (9.1). -/
structure RowRange where
  front : Int
  top : Int
deriving DecidableEq, Repr

/-- A sink in the queue (R144, R148). -/
structure Sink where
  stepAddr : Word
  addr : Word
  capacity : Nat
  written : Nat
  firstRow : Int
  note : Bool
deriving DecidableEq, Repr

/-- A marker in the queue; its target is none for first row (R149). -/
structure Marker where
  label : Word
  target : Option Int
deriving DecidableEq, Repr

/-- The survey's ending (9.1). -/
inductive Ending where
  | none | endTaken | programEnded
deriving DecidableEq, Repr

/-- Where the bound survey stands: open, its drain committing rows, or its rows done with and the closing sinks' done words
being written (R152, R154, R155). -/
inductive MapPhase where
  | surveying | draining | closing
deriving DecidableEq, Repr

/-- The row whose commit is in progress, its sink write issued; `last` is the last row of this run of commits (R146). -/
structure Commit where
  row : Int
  last : Int
  gap : Bool
  addr : Word
  bytes : List Byte
deriving DecidableEq, Repr

/-- A commit whose survey a CLEAR has ended, with the sinks that close after it (R157). -/
structure LateCommit where
  lane : LaneId
  commit : Commit
  sinks : List Sink
deriving DecidableEq, Repr

/-- The wall map (9.1). `committedInDrain`, `discardedInDrain`, `unplacedInDrain` are END's results (R154). -/
structure WallMap where
  lane : Option LaneId
  width : Nat
  zNear : Nat
  zFar : Nat
  rowPitch : Nat
  glareWeight : Nat
  staging : Word
  rows : List (Option RowRecord)
  range : Option RowRange
  sinks : List Sink
  markers : List Marker
  starving : Bool
  holdRowUsed : Bool
  ending : Ending
  phase : MapPhase
  commit : Option Commit
  committedInDrain : Nat
  discardedInDrain : Nat
  unplacedInDrain : Nat
  starvedDrain : Bool
  faulted : Bool
deriving DecidableEq, Repr

/-! ## Bus writes in flight -/

/-- A status record write in flight (R13). -/
structure StatusWrite where
  lane : LaneId
  addr : Word
  bytes : List Byte
deriving DecidableEq, Repr

/-- Why a done word is being written. -/
inductive DoneRole where
  /-- The lane's own step, on whose done word the lane waits (log 8). -/
  | current
  /-- A step given up by HALT, or a word in flight when its lane was cleared: nothing waits on it. -/
  | detached
  /-- A sink that closed full (R147). -/
  | sinkFull
  /-- A sink closed at drain end or by a map fault: the map unbinds after it (R154, R155). -/
  | sinkClose
  /-- Written on behalf of a CLEAR: CLEARING waits for it (R11). -/
  | clearing
deriving DecidableEq, Repr

/-- A done-word write in flight: the twelve result bytes, then the done code (R21). -/
structure DoneWrite where
  lane : LaneId
  addr : Word
  code : DoneCode
  results : List Byte
  note : Bool
  role : DoneRole
deriving DecidableEq, Repr

/-! ## The machine -/

/-- The LV740 and the board memory it works on. `pending` is the queue of commands that wait, first in, first out. -/
structure State where
  port : Port
  lanes : Four Lane
  odo : Odometer
  supply : Supply
  trigger : Trigger
  exposure : Exposure
  intake : Intake
  slots : List Slot
  requests : List Request
  rect : Rectifier
  map : WallMap
  lateCommits : List LateCommit
  statusWrites : List StatusWrite
  doneWrites : List DoneWrite
  mem : Memory
  pending : List Instr
deriving DecidableEq, Repr

/-- The model raises no fault of its own: every memory fault is an event the rules describe, and is modelled as a next
state. The type has no constructor. -/
inductive Fault
deriving DecidableEq, Repr

/-- Why the model has no next state for a command. -/
inductive Refusal where
  /-- No meaning yet for this row. Raised by exec alone; safe: the model stops. No arm uses it. -/
  | notModelled (mnemonic : String)
  /-- An internal event (a bus access, a timer, a render, a step) whose cause is not there in this state, so that the event
  cannot occur in the part. Raised by the meanings of internal events; safe: the model stops where the part has no such
  event (log 6). -/
  | eventNotDue
deriving DecidableEq, Repr

/-- What a meaning answers. -/
abbrev Result := Host.Outcome State Fault Refusal

/-! ## Power-on values -/

/-- All five levels low. -/
def lowPins : PinLevels := ⟨false, false, false, false, false⟩

/-- A geometry of zeros (R86). -/
def Geometry.zero : Geometry :=
  { radius := 0, ex := 0, ey := 0, roll := 0, width := 0, zNear := 0, zFar := 0, rowPitch := 0, glareWeight := 0, cx := 0
    cy := 0, ws := 0, hs := 0, dRef := 0, baseGain := 0, gainLimit := 0, glareCode := 0, outCode := 0 }

/-- A context after power-on: flags clear, contents and pose zero (R86). -/
def Context.reset : Context :=
  { geometry := .zero, geometryValid := false, pose := ⟨0, 0, 0⟩, lens := [], lensValid := false, shade := []
    shadeValid := false, tone := [], toneValid := false, glare := [], glareValid := false }

/-- A lane after power-on (R19, R37, R177). `lastStep` is a DESIGN CHOICE (log 4). -/
def Lane.reset : Lane :=
  { state := .idle, stage := .rest, programAddr := 0, lastStep := 0, cls := 0, options := {}, holdRow := 0, dumpAddr := 0
    haltPending := false, resumePending := false, holdPending := false, holdPosition := none, holdPass := false
    afterJump := false, discarding := none, completion := .none, check := .none, statusPending := false, kinds := {}
    reasons := {}, notes := 0, recordSeq := 0, snapSeq := 0, counters := {}, context := .reset }

/-- The port after power-on (R3, R19). `answer` is a DESIGN CHOICE (log 4). -/
def Port.reset : Port :=
  { anchor := 0, result := .accepted, config := .unconfigured, settingsError := 0, mask := 0, recordFault := false
    queues := .all [], answer := 0, held := [], inspection := none }

/-- The odometer at power-on with these pin levels (R39, R49). -/
def Odometer.reset (pins : PinLevels) : Odometer :=
  { pins := pins, accepted := pins, pair1 := (pins.a1, pins.b1), pair2 := (pins.a2, pins.b2), mode1 := .off, mode2 := .off
    filterCode := 3, scale := 65536, slipLimit := 0, w1 := 0, w2 := 0, p := 0, phase1 := 0, phase2 := 0, slipCount := 0
    slipFlag := false, saturated := false }

/-- The trigger after power-on (R58). Pitch, L_req and T_req are DESIGN CHOICES (log 4). -/
def Trigger.reset : Trigger :=
  { armed := none, pitch := 0, lReq := 0, tReq := 0, hw := none, pending := false }

/-- The exposure controller after power-on (R54). -/
def Exposure.reset : Exposure :=
  { seq := 0, inFlight := none, strobe := false, led := 0, ledCap := 255, timeCeiling := 10000 }

/-- Frame intake after power-on (R84). -/
def Intake.reset : Intake :=
  { slotCount := 3, slotArea := 0, ws := 256, hs := 256, timeoutMs := 255, repairLimit := 0, phase := .idle, expected := 0
    repaired := 0, lineBuffer := [], stray := 0, timeoutRunning := false, damaged := false, completion := .none
    framing := .start }

/-- The rectifier after power-on: the empty scratch row stands for zeros (R128; log 58). -/
def Rectifier.reset : Rectifier :=
  { render := none, scratch := [], counts := {}, totals := {} }

/-- The row table with every slot EMPTY. -/
def emptyRows : List (Option RowRecord) := List.replicate Config.rowSlots none

/-- The wall map after power-on (R129). -/
def WallMap.reset : WallMap :=
  { lane := none, width := 0, zNear := 0, zFar := 0, rowPitch := 0, glareWeight := 0, staging := 0, rows := emptyRows
    range := none, sinks := [], markers := [], starving := false, holdRowUsed := false, ending := .none
    phase := .surveying, commit := none, committedInDrain := 0, discardedInDrain := 0, unplacedInDrain := 0
    starvedDrain := false, faulted := false }

/-- The part right after power-on, every odometer pin low (DESIGN CHOICE, log 3), and memory with nothing listed. -/
def State.reset : State :=
  { port := .reset, lanes := .all .reset, odo := .reset lowPins
    supply := { state := .normal, good := 0, derateCode := 0, cutoffCode := 0 }
    trigger := .reset, exposure := .reset, intake := .reset, slots := List.replicate 3 .empty, requests := []
    rect := .reset, map := .reset, lateCommits := [], statusWrites := [], doneWrites := [], mem := [], pending := [] }

end Sys2Proof.Machine
end

