-- ==== Sys2Proof/Machine/Ops.lean ====
section
/-! DEFINITION. Operations that several families share: board memory, little-endian fields, saturating counts, the divisions
and the square root of R99, the CRC of R70, and changes of one lane, slot or list entry. -/

namespace Sys2Proof.Machine

/-! ## Board memory -/

/-- The byte at address `a` (a number below 2^32). -/
def Memory.byteAt (m : Memory) (a : Nat) : Byte :=
  (m.lookup a).getD Config.unlistedByte

/-- The listed form of bytes `bs` from address `a`: the bytes that differ from an unlisted one. -/
def cellsFrom (a : Nat) : List Byte → Memory
  | [] => []
  | b :: bs => if b = Config.unlistedByte then cellsFrom (a + 1) bs else (a, b) :: cellsFrom (a + 1) bs

/-- Replace the bytes from address `a` by `bs`, without wrapping. -/
def Memory.splice (m : Memory) (a : Nat) (bs : List Byte) : Memory :=
  m.filter (fun c => decide (c.1 < a)) ++ (cellsFrom a bs ++ m.filter (fun c => decide (a + bs.length ≤ c.1)))

/-- Write bytes from address `a`, addresses advancing modulo 2^32. No write of the part is longer than the address space; of a
longer one the bytes past the wrapped space are dropped. -/
def Memory.write (m : Memory) (a : Word) (bs : List Byte) : Memory :=
  let room := 2 ^ 32 - a.toNat
  if bs.length ≤ room then m.splice a.toNat bs
  else (m.splice a.toNat (bs.take room)).splice 0 ((bs.drop room).take (2 ^ 32))

/-- Read `n` bytes from address `a`, addresses advancing modulo 2^32. -/
def Memory.read (m : Memory) (a : Word) (n : Nat) : List Byte :=
  (List.range n).map fun i => m.byteAt ((a.toNat + i) % 2 ^ 32)

/-- Memory after the stores of `st`, oldest first (log 2). -/
def Memory.afterStores (m : Memory) (st : Stores) : Memory :=
  st.foldl (fun m c => m.write (BitVec.ofNat 32 c.1) [c.2]) m

/-- The canonical form: addresses strictly rising and below 2^32, no entry equal to an unlisted byte. -/
abbrev Memory.wf (m : Memory) : Prop :=
  m.Pairwise (fun c d => c.1 < d.1) ∧ ∀ c ∈ m, c.1 < 2 ^ 32 ∧ c.2 ≠ Config.unlistedByte

/-! ## Fields -/

/-- The low `n` bytes of `v`, least significant first. -/
def le : Nat → Nat → List Byte
  | 0, _ => []
  | n + 1, v => BitVec.ofNat 8 v :: le n (v / 256)

/-- The low `n` bytes of a signed value, in two's complement, least significant first. -/
def leInt (n : Nat) (v : Int) : List Byte :=
  le n (v % (256 : Int) ^ n).toNat

/-- The number whose bytes are `bs`, least significant first. -/
def fromLe : List Byte → Nat
  | [] => 0
  | b :: bs => b.toNat + 256 * fromLe bs

/-- The unsigned field of `n` bytes at offset `at_` of `bs`. -/
def field (bs : List Byte) (at_ n : Nat) : Nat :=
  fromLe ((bs.drop at_).take n)

/-- A 32-bit number read as signed. -/
def signed32 (v : Nat) : Int :=
  if v < 2 ^ 31 then v else (v : Int) - 2 ^ 32

/-- Zero bytes. -/
def zeros (n : Nat) : List Byte := List.replicate n 0

/-- A flag at a bit of a number. -/
def flagAt (bit : Nat) (b : Bool) : Nat := if b then 2 ^ bit else 0

/-! ## Arithmetic -/

/-- Addition that saturates at `limit` (Conventions, Counters). -/
def satAdd (limit a b : Nat) : Nat := min limit (a + b)

/-- A 32-bit saturating count (R14, R126). -/
def sat32 (a b : Nat) : Nat := satAdd (2 ^ 32 - 1) a b

/-- A 16-bit saturating count (R40, R43, R69, R125). -/
def sat16 (a b : Nat) : Nat := satAdd (2 ^ 16 - 1) a b

/-- Division rounded toward plus infinity, for a positive divisor (R99). -/
def ceilDiv (a b : Int) : Int := -((-a) / b)

/-- Division rounded to nearest, ties away from zero, for a positive divisor (R99). -/
def roundDiv (a b : Int) : Int :=
  if 0 ≤ a then (2 * a + b) / (2 * b) else -((-2 * a + b) / (2 * b))

/-- One bit of the floor square root: keep bit `k` when the square still does not exceed `x`. -/
def isqrtFrom (x : Nat) : Nat → Nat → Nat
  | 0, r => r
  | k + 1, r => if (r + 2 ^ k) * (r + 2 ^ k) ≤ x then isqrtFrom x k (r + 2 ^ k) else isqrtFrom x k r

/-- Floor square root of a number below 2^64 (R99). -/
def isqrt (x : Nat) : Nat := isqrtFrom x 32 0

/-- One bit step of the CRC of R70. -/
def crcBit (c : BitVec 16) : BitVec 16 :=
  if c.getLsbD 15 then (c <<< 1) ^^^ 0x1021#16 else c <<< 1

/-- One byte of the CRC of R70, most significant bit first. -/
def crcByte (c : BitVec 16) (b : Byte) : BitVec 16 :=
  let c := c ^^^ (b.setWidth 16 <<< 8)
  crcBit (crcBit (crcBit (crcBit (crcBit (crcBit (crcBit (crcBit c)))))))

/-- CRC-16 with polynomial x^16 + x^12 + x^5 + 1, initial value 0xFFFF, no final inversion (R70). -/
def crc16 (bs : List Byte) : BitVec 16 := bs.foldl crcByte 0xFFFF#16

/-! ## Lists -/

/-- Change entry `i` of a list. -/
def updateAt {α : Type} (f : α → α) : Nat → List α → List α
  | _, [] => []
  | 0, x :: xs => f x :: xs
  | i + 1, x :: xs => x :: updateAt f i xs

/-- Drop entry `i` of a list. -/
def removeAt {α : Type} : Nat → List α → List α
  | _, [] => []
  | 0, _ :: xs => xs
  | i + 1, x :: xs => x :: removeAt i xs

/-- The index of the first entry that satisfies `q`. -/
def firstIndex {α : Type} (q : α → Bool) : List α → Option Nat
  | [] => none
  | x :: xs => if q x then some 0 else (firstIndex q xs).map (· + 1)

/-- The positions in a list of the entries that satisfy `q`, counted from `i`. -/
def positions {α : Type} (q : α → Bool) : Nat → List α → List Nat
  | _, [] => []
  | i, x :: xs => if q x then i :: positions q (i + 1) xs else positions q (i + 1) xs

/-! ## State -/

/-- Lane `l`. -/
def State.lane (s : State) (l : LaneId) : Lane := s.lanes.get l

/-- Change lane `l`. -/
def State.setLane (s : State) (l : LaneId) (f : Lane → Lane) : State :=
  { s with lanes := s.lanes.modify l f }

/-- Slot `i`; a number past the table reads as a FREE slot. -/
def State.slot (s : State) (i : Nat) : Slot := s.slots.getD i Slot.empty

/-- Change slot `i`. -/
def State.setSlot (s : State) (i : Nat) (f : Slot → Slot) : State :=
  { s with slots := updateAt f i s.slots }

/-- Take the stores of a read into memory (log 2). -/
def State.withStores (s : State) (st : Stores) : State :=
  { s with mem := s.mem.afterStores st }

/-- Write bytes to board memory. -/
def State.store (s : State) (a : Word) (bs : List Byte) : State :=
  { s with mem := s.mem.write a bs }

/-- Add to one of a lane's counters. -/
def State.bump (s : State) (l : LaneId) (f : Counters → Counters) : State :=
  s.setLane l fun x => { x with counters := f x.counters }

/-- The wall map is bound to lane `l`: its survey is open, MAP_ACTIVE (R130). -/
def State.surveyOpen (s : State) (l : LaneId) : Bool := decide (s.map.lane = some l)

/-- The head is free: no exposure is in flight (R52). -/
def State.headFree (s : State) : Bool := s.exposure.inFlight.isNone

end Sys2Proof.Machine
end

