-- ==== Sys2Proof/Machine/Operands.lean ====
section
/-! DEFINITION. What the part reads out of memory blocks: step words and their operands (R20 and the step tables), the
settings block with its checks (R5), the lane block (R7), the geometry record with its checks (R90) and the tables (R93). -/

namespace Sys2Proof.Machine

/-! ## Step words (R20) -/

/-- A fetched step from its 32 bytes. The done word, bytes 2 to 15, plays no part (R20). -/
def StepWord.ofBytes (bs : List Byte) : StepWord :=
  { code := bs.getD 0 0, flags := bs.getD 1 0, operands := bs.drop 16 }

/-- The SUSPEND flag. -/
def StepWord.suspendFlag (w : StepWord) : Bool := w.flags.getLsbD 0

/-- The NOTE flag. -/
def StepWord.noteFlag (w : StepWord) : Bool := w.flags.getLsbD 1

/-- The HOLD flag. -/
def StepWord.holdFlag (w : StepWord) : Bool := w.flags.getLsbD 2

/-- The operand of `n` bytes at byte `at_` of the step word, `at_` from 16 on. -/
def StepWord.operand (w : StepWord) (at_ n : Nat) : Nat := field w.operands (at_ - 16) n

/-- The tag in bits 2:0 of byte 16 (R164, R167, R168). -/
def StepWord.tag (w : StepWord) : Tag := Fin.ofNat 8 (w.operand 16 1)

/-- The sixteen known step codes (R20). -/
def knownCodes : List Byte :=
  [0x01, 0x02, 0x03, 0x04, 0x05, 0x06, 0x08, 0x09, 0x0A, 0x0B, 0x10, 0x11, 0x12, 0x13, 0x20, 0x21]

/-- RENDER's operands (R169). -/
def StepWord.patchOps (w : StepWord) : PatchOps :=
  { k0 := w.operand 16 2 % 2048
    tag := Fin.ofNat 8 (w.operand 16 2 / 8192)
    cols := w.operand 18 2
    rows := w.operand 20 2
    pitch := w.operand 22 2
    zStart := w.operand 24 3
    stride := w.operand 27 1
    dest := BitVec.ofNat 32 (w.operand 28 4) }

/-! ## Settings block (R5) -/

/-- The fields of the settings block. -/
structure Settings where
  slotCount : Nat
  repairLimit : Nat
  timeoutMs : Nat
  filterCode : Nat
  slotArea : Nat
  ws : Nat
  hs : Nat
  mode1 : Nat
  mode2 : Nat
  zeroFlag : Nat
  derateCode : Nat
  cutoffCode : Nat
  ledCap : Nat
  timeCeiling : Nat
  scale : Nat
  slipLimit : Nat
deriving DecidableEq, Repr

/-- The settings in the 64 bytes of the block. -/
def Settings.ofBytes (bs : List Byte) : Settings :=
  { slotCount := field bs 0 1, repairLimit := field bs 1 1, timeoutMs := field bs 2 1, filterCode := field bs 3 1
    slotArea := field bs 4 4, ws := field bs 8 2, hs := field bs 10 2, mode1 := field bs 12 1, mode2 := field bs 13 1
    zeroFlag := field bs 14 1, derateCode := field bs 15 1, cutoffCode := field bs 16 1, ledCap := field bs 17 1
    timeCeiling := field bs 18 2, scale := field bs 20 4, slipLimit := field bs 24 4 }

/-- The tests of the settings in checking order, each with its error code (R5 table). -/
def Settings.tests (c : Settings) : List (Bool × Nat) :=
  [ (decide (3 ≤ c.slotCount ∧ c.slotCount ≤ 8), 2),
    (decide (c.slotArea % 4096 = 0), 3),
    (decide (256 ≤ c.ws ∧ c.ws ≤ 2048 ∧ c.ws % 16 = 0), 4),
    (decide (256 ≤ c.hs ∧ c.hs ≤ 2048 ∧ c.hs % 16 = 0), 5),
    (decide (1 ≤ c.timeoutMs), 6),
    (decide (c.mode1 ≤ 2), 8),
    (decide (c.mode2 ≤ 2 ∧ ¬(c.mode1 = 0 ∧ c.mode2 = 0)), 9),
    (decide (c.filterCode ≤ 3), 10),
    (decide (1 ≤ c.scale), 11),
    (decide (c.slipLimit ≤ 65535), 12),
    (decide (c.zeroFlag ≤ 1), 13),
    (decide (c.derateCode ≤ 7), 14),
    (decide (c.cutoffCode ≤ 7 ∧ c.cutoffCode < c.derateCode + 4), 15),
    (decide (1 ≤ c.ledCap), 16),
    (decide (20 ≤ c.timeCeiling ∧ c.timeCeiling ≤ 10000), 17) ]

/-- The settings error code of the first field out of range, 0 when all are in range (R5). -/
def Settings.error (c : Settings) : Nat :=
  match c.tests.find? (fun t => !t.1) with
  | some t => t.2
  | none => 0

/-- A wheel mode from its code (R5): 0 OFF, 1 QUAD, 2 PULSE. -/
def WheelMode.ofCode (n : Nat) : WheelMode :=
  match n with
  | 0 => .off
  | 1 => .quad
  | _ => .pulse

/-- The stride of the frame slots: 64 + 2 Ws Hs rounded up to a multiple of 4096 (R5, R76). -/
def slotStride (ws hs : Nat) : Nat := (64 + 2 * ws * hs + 4095) / 4096 * 4096

/-! ## Lane block (R7) -/

/-- The host's fields of a lane block. -/
structure LaneBlock where
  programAddr : Word
  cls : LaneId
  options : Options
  holdRow : Int
  dumpAddr : Word
deriving DecidableEq, Repr

/-- The fields in bytes 0 to 15 of the lane block. -/
def LaneBlock.ofBytes (bs : List Byte) : LaneBlock :=
  let o := bs.getD 5 0
  { programAddr := BitVec.ofNat 32 (field bs 0 4)
    cls := Fin.ofNat 4 (field bs 4 1)
    options := { initial := o.getLsbD 0, quiet := o.getLsbD 1, suspendPermit := o.getLsbD 2, holdPermit := o.getLsbD 3
                 holdRowValid := o.getLsbD 4 }
    holdRow := signed32 (field bs 8 4)
    dumpAddr := BitVec.ofNat 32 (field bs 12 4 / 16 * 16) }

/-- The address of lane `l`'s block in the anchor region (1.2). -/
def laneBlockAddr (anchor : Word) (l : LaneId) : Word := anchor + BitVec.ofNat 32 (256 + 256 * l.val)

/-! ## Geometry record (R90) -/

/-- The fields of the 64-byte geometry record. -/
def Geometry.ofBytes (bs : List Byte) : Geometry :=
  { radius := field bs 0 4, ex := signed32 (field bs 4 4), ey := signed32 (field bs 8 4), roll := field bs 12 2
    width := field bs 14 2, zNear := field bs 16 4, zFar := field bs 20 4, rowPitch := field bs 24 2
    glareWeight := field bs 26 2, cx := field bs 28 4, cy := field bs 32 4, ws := field bs 36 2, hs := field bs 38 2
    dRef := field bs 40 4, baseGain := field bs 44 2, gainLimit := field bs 46 2, glareCode := bs.getD 48 0
    outCode := bs.getD 49 0 }

/-- The window depth: ceiling((z_far - z_near) / row pitch) (R92). -/
def Geometry.windowDepth (g : Geometry) : Int := ceilDiv ((g.zFar : Int) - g.zNear) g.rowPitch

/-- The offset limit of R90 and R97. -/
abbrev offsetWithin (e : Int) (radius : Nat) : Prop := 2 * e.natAbs ≤ radius

/-- The tests of a geometry record in checking order, against the settings' source size (R90). -/
def Geometry.tests (g : Geometry) (ws hs : Nat) : List (Bool × CheckCode) :=
  [ (decide (100000 ≤ g.radius ∧ g.radius ≤ 800000), .operand),
    (decide (offsetWithin g.ex g.radius), .operand),
    (decide (offsetWithin g.ey g.radius), .operand),
    (decide (g.roll ≤ 4095), .operand),
    (decide (g.width = 256 ∨ g.width = 512 ∨ g.width = 1024 ∨ g.width = 2048), .operand),
    (decide (10000 ≤ g.zNear), .operand),
    (decide (g.zNear < g.zFar ∧ g.zFar ≤ 4000000), .operand),
    (decide (100 ≤ g.rowPitch ∧ g.rowPitch ≤ 10000), .operand),
    (decide (g.windowDepth ≤ 512), .depth),
    (decide (g.ws = ws), .sourceSize),
    (decide (g.hs = hs), .sourceSize),
    (decide (g.cx + 1 ≤ 16 * g.ws), .operand),
    (decide (g.cy + 1 ≤ 16 * g.hs), .operand),
    (decide (10000 ≤ g.dRef ∧ g.dRef ≤ 2000000), .operand),
    (decide (1 ≤ g.baseGain), .operand),
    (decide (256 ≤ g.gainLimit), .operand) ]

/-- The check that refuses a geometry record, none when its contents pass (R90). -/
def Geometry.checkCode (g : Geometry) (ws hs : Nat) : Option CheckCode :=
  (((g.tests ws hs).find? (fun t => !t.1)).map (·.2))

/-! ## Tables (R93) -/

/-- Pairs of two-byte fields (LENS entries). -/
def lensEntries : List Byte → List (Nat × Nat)
  | a :: b :: c :: d :: rest => (fromLe [a, b], fromLe [c, d]) :: lensEntries rest
  | _ => []

/-- Two-byte fields (SHADE entries). -/
def halfWords : List Byte → List Nat
  | a :: b :: rest => fromLe [a, b] :: halfWords rest
  | _ => []

/-- The bits set in a byte. -/
def bitCount (b : Byte) : Nat := ((List.range 8).filter fun i => b.getLsbD i).length

/-- How many codes a glare set holds (R96). -/
def glareCount (bs : List Byte) : Nat := (bs.map bitCount).sum

/-- Membership of code `c` in the glare set (R93). -/
def glareMember (bs : List Byte) (c : Nat) : Bool := (bs.getD (c / 8) 0).getLsbD (c % 8)

/-- A context is complete when all five valid flags are set (R85). -/
def Context.complete (c : Context) : Bool :=
  c.geometryValid && c.lensValid && c.shadeValid && c.toneValid && c.glareValid

/-- The five valid flags as byte 4 of a table step's done word (R89). -/
def Context.flagByte (c : Context) : Byte :=
  BitVec.ofNat 8 (flagAt 0 c.geometryValid + flagAt 1 c.lensValid + flagAt 2 c.shadeValid + flagAt 3 c.toneValid
    + flagAt 4 c.glareValid)

end Sys2Proof.Machine
end

