-- ==== Sys2Proof/Machine/Flags.lean ====
section
/-! DEFINITION. Status and attention: the coded fields of registers and records, raising status (R13), the attention queues
(R16), ATTN_N (R17), the register reads (R1, R3, R18), and the start of a done-word write (R21). -/

namespace Sys2Proof.Machine

/-! ## Codes -/

/-- Result codes (1.1). -/
def ResultCode.code : ResultCode → Nat
  | .accepted => 0
  | .pending => 1
  | .busy => 2
  | .unconfigured => 3
  | .invalid => 4

/-- Configuration states (1.1). -/
def ConfigState.code : ConfigState → Nat
  | .unconfigured => 0
  | .loading => 1
  | .configured => 2

/-- Supply states (1.1). -/
def SupplyState.code : SupplyState → Nat
  | .normal => 0
  | .derate => 1
  | .cutoff => 2

/-- Lane states (R14 layout). -/
def LaneState.code : LaneState → Nat
  | .idle => 0
  | .starting => 1
  | .running => 2
  | .suspended => 3
  | .held => 4
  | .draining => 5
  | .clearing => 6

/-- Completion codes (R14 layout). -/
def Completion.code : Completion → Nat
  | .none => 0
  | .normal => 1
  | .halted => 2
  | .check => 3
  | .fault => 4
  | .cleared => 5
  | .drainStarved => 6
  | .cutoff => 7

/-- Check codes (R32). -/
def CheckCode.code : CheckCode → Nat
  | .none => 0
  | .stepCode => 1
  | .operand => 2
  | .context => 3
  | .locked => 4
  | .surveyBusy => 5
  | .surveyOpen => 6
  | .noSurvey => 7
  | .suspend => 8
  | .hold => 9
  | .jumpChain => 10
  | .memory => 11
  | .depth => 12
  | .sourceSize => 13
  | .keepLimit => 14
  | .tagUnknown => 15
  | .tagInUse => 16
  | .nothingToKeep => 17

/-- Done codes (R21). -/
def DoneCode.code : DoneCode → Nat
  | .none => 0
  | .done => 1
  | .exception => 2
  | .abandoned => 3
  | .checked => 4

/-- Status kinds, byte 6 of the status record (R14). -/
def Kinds.code (k : Kinds) : Nat :=
  flagAt 0 k.alert + flagAt 1 k.intermediate + flagAt 2 k.primary + flagAt 3 k.secondary + flagAt 4 k.pending

/-- Intermediate reasons, byte 7 of the status record (R14). -/
def Reasons.code (r : Reasons) : Nat :=
  flagAt 0 r.initial + flagAt 1 r.note + flagAt 2 r.suspended + flagAt 3 r.held + flagAt 4 r.starved

/-- Kinds held and kinds raised (R13). -/
def Kinds.or (a b : Kinds) : Kinds :=
  { alert := a.alert || b.alert, intermediate := a.intermediate || b.intermediate, primary := a.primary || b.primary
    secondary := a.secondary || b.secondary, pending := a.pending || b.pending }

/-- Reasons held and reasons raised (R13). -/
def Reasons.or (a b : Reasons) : Reasons :=
  { initial := a.initial || b.initial, note := a.note || b.note, suspended := a.suspended || b.suspended
    held := a.held || b.held, starved := a.starved || b.starved }

/-- START_PENDING: the lane is STARTING and waiting on its lane-block read (R14). -/
def Lane.startPending (x : Lane) : Bool := decide (x.state = .starting ∧ x.stage = .blockRead)

/-- The activity flags of lane `l`, bytes 8 to 9 of the status record (R14). -/
def activityFlags (s : State) (l : LaneId) : Nat :=
  let x := s.lane l
  flagAt 0 x.startPending + flagAt 1 (decide (x.state = .running)) + flagAt 2 (decide (x.state = .suspended))
    + flagAt 3 x.haltPending + flagAt 4 x.resumePending + flagAt 5 x.holdPending + flagAt 6 (decide (x.state = .held))
    + flagAt 7 (s.surveyOpen l) + flagAt 8 (decide (x.state = .clearing))

/-- The eleven counters in record order (R14). -/
def Counters.toList (c : Counters) : List Nat :=
  [c.rendered, c.starved, c.damaged, c.faulted, c.coalesced, c.withheldSupply, c.withheldHeld, c.committed, c.gaps,
   c.unplaced, c.discarded]

/-- The 64 bytes of lane `l`'s status record (R14 layout). -/
def statusRecord (s : State) (l : LaneId) : List Byte :=
  let x := s.lane l
  le 4 x.recordSeq.toNat ++ le 1 x.state.code ++ le 1 x.completion.code ++ le 1 x.kinds.code ++ le 1 x.reasons.code
    ++ le 2 (activityFlags s l) ++ le 1 x.check.code ++ le 1 x.notes ++ le 4 x.lastStep.toNat ++ leInt 4 s.odo.p
    ++ x.counters.toList.flatMap (le 4)

/-! ## Attention queues (R16) -/

/-- Lane `l` joins the tail of its class's queue. -/
def joinQueue (l : LaneId) (s : State) : State :=
  { s with port.queues := s.port.queues.modify (s.lane l).cls (fun q => q ++ [l]) }

/-- Lane `l` leaves its queue; the others keep their order. -/
def leaveQueue (l : LaneId) (s : State) : State :=
  { s with port.queues := s.port.queues.map (fun q => q.filter (fun m => decide (m ≠ l))) }

/-- ATTN_N is asserted: an enabled class has a lane in its queue (R17). -/
def State.attnAsserted (s : State) : Bool :=
  allLanes.any fun c => s.port.mask.getLsbD c.val && !(s.port.queues.get c).isEmpty

/-- The level of the ATTN_N pin, active low (R17). -/
def State.attnN (s : State) : Bool := !s.attnAsserted

/-- The next lane of an ATTENTION read: the head of the lowest enabled class with a lane, else 7 (R18). -/
def nextLane (s : State) : Nat :=
  match allLanes.find? (fun c => s.port.mask.getLsbD c.val && !(s.port.queues.get c).isEmpty) with
  | some c => match s.port.queues.get c with
    | l :: _ => l.val
    | [] => 7
  | none => 7

/-! ## Raising status (R13) -/

/-- The new values of a lane's status when it raises `k` and `r`: exactly those when it was not status pending, else added;
each NOTE counts; the record sequence number goes up with the write (R13, R14). -/
def Lane.raised (x : Lane) (k : Kinds) (r : Reasons) : Lane :=
  { x with
    statusPending := true
    kinds := if x.statusPending then x.kinds.or k else k
    reasons := if x.statusPending then x.reasons.or r else r
    notes := if r.note then satAdd 255 x.notes 1 else x.notes
    recordSeq := x.recordSeq + 1 }

/-- Start the write of lane `l`'s status record as it stands (R13; the values are those of the raise, log 12). -/
def startStatusWrite (l : LaneId) (s : State) : State :=
  { s with statusWrites := s.statusWrites ++ [⟨l, laneBlockAddr s.port.anchor l + 32, statusRecord s l⟩] }

/-- Lane `l` raises status with kinds `k` and reasons `r` (R13). -/
def raiseStatus (l : LaneId) (k : Kinds) (r : Reasons) (s : State) : State :=
  let joined := if (s.lane l).statusPending then s else joinQueue l s
  startStatusWrite l (joined.setLane l fun x => x.raised k r)

/-- Raise intermediate status with one reason. -/
def raiseIntermediate (l : LaneId) (r : Reasons) (s : State) : State :=
  raiseStatus l { intermediate := true } r s

/-- Raise ALERT alone. -/
def raiseAlert (l : LaneId) (s : State) : State :=
  raiseStatus l { alert := true } {} s

/-! ## Done words (R21) -/

/-- Start the write of a done word into the step at `addr`. -/
def issueDone (l : LaneId) (addr : Word) (code : DoneCode) (results : List Byte) (note : Bool) (role : DoneRole)
    (s : State) : State :=
  { s with doneWrites := s.doneWrites ++ [⟨l, addr, code, results, note, role⟩] }

/-- The memory after a done-word write has landed: bytes 4 to 15 first, then bytes 2 and 3 (R21). -/
def DoneWrite.landIn (d : DoneWrite) (m : Memory) : Memory :=
  (m.write (d.addr + 4) d.results).write (d.addr + 2) (le 2 d.code.code)

/-! ## Register reads (R1, R3, R18) -/

/-- Head busy: an exposure is in flight (R3, R52). -/
def State.headBusy (s : State) : Bool := !s.headFree

/-- What RESULT reads (1.1). -/
def resultWord (s : State) : Word :=
  BitVec.ofNat 32 (s.port.result.code + 2 ^ 4 * s.port.config.code + 2 ^ 8 * (s.port.settingsError % 256)
    + flagAt 16 s.odo.saturated + flagAt 17 s.headBusy + 2 ^ 18 * s.supply.state.code)

/-- What ATTENTION reads (R18). -/
def attentionWord (s : State) : Word :=
  let bit (c : LaneId) : Nat := flagAt c.val (!(s.port.queues.get c).isEmpty)
  BitVec.ofNat 32 (bit 0 + bit 1 + bit 2 + bit 3 + 2 ^ 4 * nextLane s + flagAt 8 s.port.recordFault
    + 2 ^ 16 * s.port.mask.toNat)

/-- The bytes of a register that a read with these byte enables returns, each in its place; a byte that is not addressed is
returned as zero (R1; log 33). -/
def addressedBytes (enables : BitVec 4) (w : Word) : Word :=
  let keep (i : Nat) : Word := if enables.getLsbD i then 0xFF#32 <<< (8 * i) else 0#32
  w &&& (keep 0 ||| keep 1 ||| keep 2 ||| keep 3)

/-- What a full-width read at byte offset `offset` returns (R1). Reads have no side effect but that of ATTENTION, which is a
command. -/
def readRegister (s : State) (offset : Nat) : Word :=
  match offset / 4 with
  | 0 => Config.ident
  | 1 => s.port.anchor
  | 2 => 0
  | 3 => resultWord s
  | 4 => attentionWord s
  | 5 => BitVec.ofInt 32 s.odo.p
  | _ => 0

end Sys2Proof.Machine
end

