-- ==== Sys2Proof/Machine/Lanes.lean ====
section
/-! DEFINITION. The lane interpreter's shared operations (chapter 2): step ends, checks, step boundaries, the end of a
program, examination of a fetched step, and reaching a hold (chapter 11). -/

namespace Sys2Proof.Machine

/-! ## Survey trigger and program end -/

/-- Disarm the survey trigger when it is armed for lane `l`: hw none, pending flag clear (R58). -/
def disarmTrigger (l : LaneId) (s : State) : State :=
  if s.trigger.armed = some l then
    { s with trigger := { s.trigger with armed := none, hw := none, pending := false } }
  else s

/-- A lane whose program has ended: pending flags and hold state dropped, nothing more fetched (R33, R177). -/
def Lane.programEnded (x : Lane) (state : LaneState) (c : Completion) (check : CheckCode) : Lane :=
  { x with
    state := state, stage := .rest, haltPending := false, resumePending := false, holdPending := false
    holdPosition := none, holdPass := false, completion := c, check := check }

/-- The program of lane `l` ends by STOP, HALT or a check; `check` is none but for a check, whose raise carries ALERT. The
lane drains if the map is bound to it, else SECONDARY comes with PRIMARY and the lane is IDLE (R33). The lane's new state comes
before the raise, so that the record shows it (DESIGN CHOICE, log 38). -/
def endProgram (l : LaneId) (c : Completion) (check : Option CheckCode) (s : State) : State :=
  let code := check.getD (s.lane l).check
  if s.surveyOpen l then
    let s := disarmTrigger l (s.setLane l fun x => x.programEnded .draining c code)
    raiseStatus l { primary := true, alert := check.isSome } {} { s with map.ending := .programEnded }
  else
    raiseStatus l { primary := true, secondary := true, alert := check.isSome } {}
      (s.setLane l fun x => x.programEnded .idle c code)

/-- The wind-down of a program that a map fault ended: when the map is unbound from the lane and no step is in progress, the
lane raises SECONDARY and becomes IDLE (R34); the record shows IDLE (DESIGN CHOICE, log 38). -/
def windDown (l : LaneId) (s : State) : State :=
  if (s.lane l).state = .draining ∧ ¬ s.surveyOpen l ∧ (s.lane l).stage = .rest then
    raiseStatus l { secondary := true } {} (s.setLane l fun x => { x with state := .idle })
  else s

/-! ## Step boundaries and step ends -/

/-- A step boundary: HALT_PENDING ends the program, HOLD_PENDING waits for its hold, else the next step is fetched (R24). -/
def boundary (l : LaneId) (s : State) : State :=
  if (s.lane l).haltPending then endProgram l .halted none s
  else if (s.lane l).holdPending then s.setLane l fun x => { x with stage := .boundary }
  else s.setLane l fun x => { x with stage := .fetch }

/-- Advance the program address by 32, modulo 2^32, to a step boundary (R23, R27). -/
def advance (l : LaneId) (s : State) : State :=
  boundary l (s.setLane l fun x => { x with programAddr := x.programAddr + 32 })

/-- The lane's own step ends: its done word is written and the lane waits for that write (R21, R27, log 8). -/
def endStep (l : LaneId) (w : StepWord) (code : DoneCode) (results : List Byte) (after : After) (s : State) : State :=
  issueDone l (s.lane l).programAddr code results w.noteFlag .current
    (s.setLane l fun x => { x with stage := .doneWrite after })

/-- A check refuses the lane's step (R31): CHECKED, the check code in byte 4, zeros in bytes 5 to 15. -/
def checkStep (l : LaneId) (w : StepWord) (c : CheckCode) (s : State) : State :=
  endStep l w .checked (le 1 c.code ++ zeros 11) (.check c) s

/-- What follows the done word of the lane's own step. A lane that a map fault has put in DRAINING fetches nothing more and
winds down (R34). -/
def afterDoneWord (l : LaneId) (after : After) (s : State) : State :=
  if (s.lane l).state = .draining then windDown l (s.setLane l fun x => { x with stage := .rest })
  else match after with
    | .advance => advance l s
    | .advanceAlert => advance l s
    | .advanceStarved => advance l s
    | .jump target => boundary l (s.setLane l fun x => { x with programAddr := target, afterJump := true })
    | .stop => endProgram l .normal none s
    | .check c => endProgram l .check (some c) s

/-- The raise that stands between a done word and the lane's going on: ALERT after a failed render, ALERT with DRAIN_STARVED
after a starved END (R154, R173, R174). -/
def alertAfterDoneWord (l : LaneId) (after : After) (s : State) : State :=
  match after with
  | .advanceAlert => raiseAlert l s
  | .advanceStarved => raiseAlert l (s.setLane l fun x => { x with completion := .drainStarved })
  | _ => s

/-! ## Holds (R179, R180) -/

/-- The rectifier is running a survey render of the survey bound to lane `l` (R179). -/
def surveyRenderOf (s : State) (l : LaneId) : Bool :=
  match s.rect.render with
  | some r => match r.job with
    | .survey _ _ => decide (r.lane = l) && s.surveyOpen l && !r.stopping
    | .patch _ _ => false
  | none => false

/-- Where a lane that is to hold would be held, none when it is not at a place to hold (R179, R180). -/
def holdPlace (x : Lane) : Option HoldPosition :=
  match x.state, x.stage with
  | .running, .boundary => if x.holdPending then some .boundary else none
  | .running, .tagged _ => some .tagged
  | .suspended, _ => if x.holdPending then some .suspended else none
  | _, _ => none

/-- The hold of lane `l` comes before a render grant: it stands where it holds, no survey render of its survey is in progress
(R179), and it is not at the grant point of a STEP that has just taken it out of HELD (R161, R184; log 20). -/
def holdDue (s : State) (l : LaneId) : Bool :=
  (holdPlace (s.lane l)).isSome && !surveyRenderOf s l && decide ((s.lane l).stage ≠ .leftHold)

/-- A lane for which the render grant point of its leaving HELD is past (R161). -/
def Lane.grantPast (x : Lane) : Lane := { x with stage := if x.stage = .leftHold then .rest else x.stage }

/-- The trigger's pending flag, if set for lane `l`, is cleared and counted as withheld (R61). -/
def withholdAtHold (l : LaneId) (s : State) : State :=
  if s.trigger.armed = some l ∧ s.trigger.pending then
    ({ s with trigger.pending := false }).bump l fun c => { c with withheldHeld := sat32 c.withheldHeld 1 }
  else s

/-- Lane `l` reaches its hold (R179). -/
def reachHold (l : LaneId) (pos : HoldPosition) (s : State) : State :=
  raiseIntermediate l { held := true }
    (withholdAtHold l
      (s.setLane l fun x => { x.grantPast with state := .held, holdPending := false, holdPosition := some pos }))

/-! ## Examination of a fetched step (R25) -/

/-- The lane suspends in front of an untaken step (R25). A HALT_PENDING found here ends the program HALTED (log 10). -/
def suspendLane (l : LaneId) (s : State) : State :=
  if (s.lane l).haltPending then endProgram l .halted none s
  else
    let t := s.setLane l fun x => { x with state := .suspended, stage := .rest, holdPass := false }
    if (s.lane l).options.quiet then t else raiseIntermediate l { suspended := true } t

/-- The step is handed on to be taken, or refused for its code (R26). -/
def offerStep (l : LaneId) (w : StepWord) (s : State) : State :=
  if w.code ∈ knownCodes then s.setLane l fun x => { x with stage := .take w }
  else checkStep l w .stepCode s

/-- The SUSPEND flag of a fetched step (R25, item 2). A HOLD taken while the step was being fetched does not keep the lane from
suspending: SUSPENDED is raised, and the hold is then reached in the suspended position (DESIGN CHOICE, log 62). -/
def examineSuspend (l : LaneId) (w : StepWord) (s : State) : State :=
  if ¬ w.suspendFlag then offerStep l w s
  else if ¬ (s.lane l).options.suspendPermit then checkStep l w .suspend s
  else if (s.lane l).resumePending then
    s.setLane l fun x => { x with resumePending := false, stage := .fetch }
  else suspendLane l s

/-- A tagged hold point (R180): the lane holds in front of the step, or waits there while its survey renders. A HALT_PENDING
found here ends the program HALTED (log 10). -/
def tagHold (l : LaneId) (w : StepWord) (s : State) : State :=
  if (s.lane l).haltPending then endProgram l .halted none s
  else
    let t := s.setLane l fun x => { x with stage := .tagged w }
    if surveyRenderOf t l then t else reachHold l .tagged t

/-- Examination of a fetched step: the HOLD flag, then the SUSPEND flag, then taking (R25, R180). -/
def examineStep (l : LaneId) (w : StepWord) (s : State) : State :=
  if ¬ w.holdFlag then examineSuspend l w s
  else if ¬ (s.lane l).options.holdPermit then checkStep l w .hold s
  else if (s.lane l).holdPass then examineSuspend l w s
  else tagHold l w s

/-! ## Taking a step -/

/-- The lane takes a step: hold pass and the first-fetch-after-JUMP mark clear (11.1, R23). -/
def Lane.tookStep (x : Lane) : Lane := { x with holdPass := false, afterJump := false }

/-- Take lane `l`'s examined step when it has code `code`; otherwise no such step is being taken. -/
def taking (l : LaneId) (code : Byte) (s : State) (f : StepWord → State → State) : Result :=
  match (s.lane l).stage with
  | .take w => if w.code = code ∧ (s.lane l).state = .running then .next (f w (s.setLane l Lane.tookStep))
    else .refused .eventNotDue
  | _ => .refused .eventNotDue

end Sys2Proof.Machine
end

