-- ==== Sys2Proof/Machine/Slots.lean ====
section
/-! DEFINITION. The frame slot table (chapter 5): addresses, headers, allocation, bindings, kept claims, and what frees a
slot. -/

namespace Sys2Proof.Machine

/-! ## Places in memory (R70, R76) -/

/-- The address of slot `i` (R76), modulo 2^32 (log 25). -/
def slotAddr (n : Intake) (i : Nat) : Word :=
  n.slotArea + BitVec.ofNat 32 (i * slotStride n.ws n.hs)

/-- The address of line `y` of slot `i` (R70). -/
def lineAddr (n : Intake) (i y : Nat) : Word :=
  slotAddr n i + BitVec.ofNat 32 (64 + 2 * n.ws * y)

/-- A line's pixels as memory holds them: 16-bit little-endian words (R70). -/
def lineBytes (pixels : List Nat) : List Byte := pixels.flatMap (le 2)

/-- The code of a frame's kind in the slot header (R76). -/
def FrameKind.code : FrameKind → Nat
  | .survey => 1
  | .patch => 2

/-- The flags of an exposure, byte 7 of the slot header (R76). -/
def ExposureRecord.flagByte (r : ExposureRecord) : Byte :=
  BitVec.ofNat 8 (flagAt 0 r.derated + flagAt 1 r.timeClipped + flagAt 2 r.slip)

/-- The 64 bytes of the slot header as written at strobe start: repaired count 0, outcome IN_PROGRESS (R76). -/
def headerBytes (r : ExposureRecord) : List Byte :=
  le 4 r.seq.toNat ++ le 1 r.kind.code ++ le 1 r.lane.val ++ le 1 (if r.derate then 1 else 0) ++ [r.flagByte]
    ++ leInt 4 r.p ++ le 2 r.tReq ++ le 2 r.tUsed ++ leInt 8 r.pos ++ le 1 r.lReq ++ le 1 r.lUsed ++ le 2 r.e
    ++ zeros 36

/-! ## The table -/

/-- A slot can be allocated while at least one is FREE or DONE (R77). -/
def canAllocate (s : State) : Bool :=
  s.slots.any fun x => decide (x.state = .free ∨ x.state = .done)

/-- The sequence number of a slot's frame as a plain unsigned number. -/
def Slot.seqNat (x : Slot) : Nat :=
  match x.record with
  | some r => r.seq.toNat
  | none => 0

/-- Of two slot numbers, the one whose frame has the lower sequence number, the first on a tie. -/
def lowerSeq (s : State) (a b : Nat) : Nat :=
  if (s.slot b).seqNat < (s.slot a).seqNat then b else a

/-- Of two slot numbers, the one whose frame has the higher sequence number, the first on a tie. -/
def higherSeq (s : State) (a b : Nat) : Nat :=
  if (s.slot a).seqNat < (s.slot b).seqNat then b else a

/-- The slot a strobe start allocates: the lowest FREE slot, else the DONE slot with the lowest sequence number (R77). -/
def allocate (s : State) : Option Nat :=
  match firstIndex (fun x => decide (x.state = .free)) s.slots with
  | some i => some i
  | none => match positions (fun x => decide (x.state = .done)) 0 s.slots with
    | [] => none
    | i :: is => some (is.foldl (lowerSeq s) i)

/-- The slot bound to (lane, tag), if any (R76). -/
def boundSlot (s : State) (l : LaneId) (t : Tag) : Option Nat :=
  firstIndex (fun x => decide (x.binding = some (l, t))) s.slots

/-- A slot that holds a frame of this kind. -/
def Slot.holds (x : Slot) (k : FrameKind) : Bool :=
  match x.record with
  | some r => decide (r.kind = k)
  | none => false

/-- A slot that holds a survey frame of lane `l`. -/
def Slot.surveyFrameOf (x : Slot) (l : LaneId) : Bool :=
  match x.record with
  | some r => decide (r.kind = .survey ∧ r.lane = l)
  | none => false

/-- A slot that holds a patch frame of lane `l`. -/
def Slot.patchFrameOf (x : Slot) (l : LaneId) : Bool :=
  match x.record with
  | some r => decide (r.kind = .patch ∧ r.lane = l)
  | none => false

/-- Lane `l` is waiting in an EXPOSE for the head. -/
def exposeWaiting (s : State) (l : LaneId) : Bool :=
  match (s.lane l).stage with
  | .exposeWait _ => true
  | _ => false

/-- The kept claims (R82). -/
def keptClaims (s : State) : Nat :=
  (s.slots.filter fun x => decide (x.state = .kept)).length
    + (s.slots.filter fun x => decide (x.state = .filling) && x.holds .patch && !x.orphan).length
    + (allLanes.filter (exposeWaiting s)).length

/-- One more kept claim would make the kept claims exceed slot count - 2 (R82). -/
def keepLimitReached (s : State) : Bool :=
  decide (s.intake.slotCount < keptClaims s + 3)

/-! ## Freeing -/

/-- A KEPT slot loses its binding and is FREE at once, or at the end of the render that reads it (R81, R83). -/
def Slot.unkeep (x : Slot) : Slot :=
  if x.inUse then { x with binding := none, releasePending := true } else .empty

/-- A slot at the end of the render that read it (R80). -/
def Slot.renderEnded (x : Slot) : Slot :=
  if x.state = .rendering then { x with state := .done, inUse := false }
  else if x.state = .kept ∧ x.releasePending then .empty
  else { x with inUse := false }

/-- The slots when a survey of lane `l` is ended by CLEAR or a map fault: READY frames become DONE, a FILLING frame is
orphaned (R83, R155). -/
def Slot.surveyDropped (l : LaneId) (x : Slot) : Slot :=
  if x.surveyFrameOf l ∧ x.state = .ready then { x with state := .done }
  else if x.surveyFrameOf l ∧ x.state = .filling then { x with orphan := true }
  else x

/-- The slots when lane `l` is cleared, beyond its survey: its kept slots are given up and its patch frame in flight is
orphaned (R83). -/
def Slot.laneCleared (l : LaneId) (x : Slot) : Slot :=
  match x.binding with
  | some (m, _) => if m = l ∧ x.state = .kept then x.unkeep else x
  | none => if x.patchFrameOf l ∧ x.state = .filling then { x with orphan := true } else x

end Sys2Proof.Machine
end

