-- ==== Sys2Proof/Machine/Exposure.lean ====
section
/-! DEFINITION. The exposure controller (chapter 4): levels and compensation, strobe start, the survey trigger, head
arbitration and the supply monitor. -/

namespace Sys2Proof.Machine

/-! ## Levels (R55, R56) -/

/-- The light and time of an exposure, with the flags of R55. -/
structure Levels where
  lUsed : Nat
  tUsed : Nat
  derated : Bool
  timeClipped : Bool
deriving DecidableEq, Repr

/-- The time that keeps the same light: ceiling(T_req L_req / L_used) (R55). -/
def stretchedTime (lReq tReq lUsed : Nat) : Nat := (tReq * lReq + (lUsed - 1)) / lUsed

/-- The used level and time (R55). No exposure fires in CUTOFF, so `derate` says which of the other two states was taken. -/
def usedLevels (derate : Bool) (cap ceiling lReq tReq : Nat) : Levels :=
  if derate then
    let l := min lReq cap
    let want := stretchedTime lReq tReq l
    let t := min ceiling want
    { lUsed := l, tUsed := t, derated := decide (l ≠ lReq ∨ t ≠ tReq), timeClipped := decide (ceiling < want) }
  else { lUsed := lReq, tUsed := tReq, derated := false, timeClipped := false }

/-- The compensation factor E (R56). -/
def compensation (lReq tReq lUsed tUsed : Nat) : Nat :=
  min 16383 ((4096 * lReq * tReq + lUsed * tUsed / 2) / (lUsed * tUsed))

/-- The position in micrometres, P = floor(p K / 65536) (R46). -/
def positionUm (o : Odometer) : Int := o.p * (o.scale : Int) / 65536

/-! ## Strobe start (R53) -/

/-- The exposure record of an exposure starting now (R57). -/
def newRecord (s : State) (kind : FrameKind) (l : LaneId) (lReq tReq : Nat) : ExposureRecord :=
  let derate := decide (s.supply.state = .derate)
  let v := usedLevels derate s.exposure.ledCap s.exposure.timeCeiling lReq tReq
  { seq := s.exposure.seq + 1, kind := kind, lane := l, p := s.odo.p, pos := positionUm s.odo, lReq := lReq
    lUsed := v.lUsed, tReq := tReq, tUsed := v.tUsed, e := compensation lReq tReq v.lUsed v.tUsed, derate := derate
    derated := v.derated, timeClipped := v.timeClipped, slip := s.odo.slipFlag }

/-- Strobe start for an exposure of this kind, lane and request, as one event (R53 items 1 to 7, R76, R77). With no slot to
allocate nothing happens; R62 and R59 never ask then. -/
def strobeStart (kind : FrameKind) (l : LaneId) (lReq tReq : Nat) (s : State) : State :=
  match allocate s with
  | none => s
  | some i =>
    let r := newRecord s kind l lReq tReq
    let s := s.setSlot i fun _ => { Slot.empty with state := .filling, record := some r }
    let s := { s with
      exposure := { s.exposure with seq := r.seq, inFlight := some i, strobe := true, led := r.lUsed }
      intake := { s.intake with phase := .integrating, damaged := false, completion := .none }
      odo.slipFlag := false }
    s.store (slotAddr s.intake i) (headerBytes r)

/-- Fire the survey exposure of the trigger armed for lane `l` (R53 item 8). -/
def fireSurvey (l : LaneId) (s : State) : State :=
  let t := strobeStart .survey l s.trigger.lReq s.trigger.tReq s
  { t with trigger := { t.trigger with hw := some s.odo.p, pending := false } }

/-- Give a waiting EXPOSE of lane `l` its strobe start (R62). -/
def fireExpose (l : LaneId) (s : State) : State :=
  match (s.lane l).stage with
  | .exposeWait w =>
    (strobeStart .patch l (w.operand 17 1) (w.operand 18 2) s).setLane l fun x => { x with stage := .exposeFlight w }
  | _ => s

/-! ## Survey trigger (R58 to R61) -/

/-- The trigger is due: armed, and hw is none or p has reached hw + pitch (R59). -/
def triggerDue (s : State) : Bool :=
  s.trigger.armed.isSome &&
    match s.trigger.hw with
    | none => true
    | some hw => decide (hw + s.trigger.pitch ≤ s.odo.p)

/-- The trigger withholds an exposure because its lane is HELD (R59, R61). -/
def withholdHeld (l : LaneId) (s : State) : State :=
  ({ s with trigger.pending := false }).bump l fun c => { c with withheldHeld := sat32 c.withheldHeld 1 }

/-- The trigger withholds an exposure because the supply is in CUTOFF (R59). -/
def withholdSupply (l : LaneId) (s : State) : State :=
  ({ s with trigger.pending := false }).bump l fun c => { c with withheldSupply := sat32 c.withheldSupply 1 }

/-! ## Head arbitration (R62) -/

/-- A head waiter. -/
inductive Waiter where
  | survey (lane : LaneId)
  | expose (lane : LaneId)
deriving DecidableEq, Repr

/-- The waiters of lane `l`, the survey trigger before an EXPOSE (R62). -/
def waitersOf (s : State) (l : LaneId) : List Waiter :=
  (if s.trigger.armed = some l ∧ s.trigger.pending then [Waiter.survey l] else [])
    ++ (if exposeWaiting s l then [Waiter.expose l] else [])

/-- The lanes by class, then by number: the order of R62 and R161. -/
def lanesByClass (s : State) : List LaneId :=
  allLanes.flatMap fun c => allLanes.filter fun l => decide ((s.lane l).cls = c)

/-- The head waiters in the order they are served (R62). -/
def headWaiters (s : State) : List Waiter := (lanesByClass s).flatMap (waitersOf s)

/-- The head can be granted: it is free, a slot can be allocated, and the supply is not in CUTOFF (R62). -/
def headGrantable (s : State) : Bool :=
  s.headFree && canAllocate s && decide (s.supply.state ≠ .cutoff)

/-- Serve the waiters in order until one exposure is fired. A survey waiter is evaluated afresh: HELD withholds it, and one
no longer due is dropped, and the next waiter is reached (R60, R62). -/
def serveWaiters : List Waiter → State → State
  | [], s => s
  | .survey l :: ws, s =>
    if ¬ triggerDue s then serveWaiters ws { s with trigger.pending := false }
    else if (s.lane l).state = .held then serveWaiters ws (withholdHeld l s)
    else fireSurvey l s
  | .expose l :: _, s => fireExpose l s

/-- The head arbitration at a grant point (R62). -/
def headArbitrate (s : State) : State :=
  if headGrantable s then serveWaiters (headWaiters s) s else s

/-- An evaluation of the survey trigger (R59 table). Joining the waiters is a grant point. -/
def evalTrigger (s : State) : State :=
  match s.trigger.armed with
  | none => s
  | some l =>
    if ¬ triggerDue s then s
    else if (s.lane l).state = .held then withholdHeld l s
    else if s.supply.state = .cutoff then withholdSupply l s
    else if s.trigger.pending then s.bump l fun c => { c with coalesced := sat32 c.coalesced 1 }
    else if s.headFree ∧ canAllocate s ∧ headWaiters s = [] then fireSurvey l s
    else headArbitrate { s with trigger.pending := true }

/-! ## Supply monitor (R64 to R67) -/

/-- The bands of a sample (R64). -/
inductive Band where
  | b0 | b1 | b2 | b3 | b4
deriving DecidableEq, Repr

/-- The band of a supply of `mv` millivolts (R64). -/
def bandOf (m : Supply) (mv : Nat) : Band :=
  let vd := Config.derateMillivolts m.derateCode
  let vc := Config.cutoffMillivolts m.cutoffCode
  if mv < vc then .b0
  else if mv < vc + 500 then .b1
  else if mv < vd then .b2
  else if mv < vd + 500 then .b3
  else .b4

/-- One good sample more: at four the monitor moves to `up` (R65). -/
def Supply.oneGood (m : Supply) (up : SupplyState) : Supply :=
  if m.good + 1 ≥ 4 then { m with state := up, good := 0 } else { m with good := m.good + 1 }

/-- The monitor in a state with the count at 0. -/
def Supply.settle (m : Supply) (st : SupplyState) : Supply := { m with state := st, good := 0 }

/-- A sample moves the monitor (R65 table). -/
def Supply.sample (m : Supply) (b : Band) : Supply :=
  match m.state, b with
  | .normal, .b0 => m.settle .cutoff
  | .normal, .b1 => m.settle .derate
  | .normal, .b2 => m.settle .derate
  | .normal, .b3 => m.settle .normal
  | .normal, .b4 => m.settle .normal
  | .derate, .b0 => m.settle .cutoff
  | .derate, .b1 => m.settle .derate
  | .derate, .b2 => m.settle .derate
  | .derate, .b3 => m.settle .derate
  | .derate, .b4 => m.oneGood .normal
  | .cutoff, .b0 => m.settle .cutoff
  | .cutoff, .b1 => m.settle .cutoff
  | .cutoff, .b2 => m.oneGood .derate
  | .cutoff, .b3 => m.oneGood .derate
  | .cutoff, .b4 => m.oneGood .derate

/-- EXPOSE's result bytes 4 to 15 (R166). -/
def exposeResults (seq : Word) (repaired : Nat) (flags : Byte) (slot reason : Nat) : List Byte :=
  le 4 seq.toNat ++ le 2 repaired ++ [flags] ++ le 1 slot ++ le 1 reason ++ zeros 3

/-- A waiting EXPOSE of lane `l` ends EXCEPTION, reason supply cutoff (R63, R66). -/
def cutoffExpose (l : LaneId) (s : State) : State :=
  match (s.lane l).stage with
  | .exposeWait w => endStep l w .exception (exposeResults 0 0 0 0 1) .advance s
  | _ => s

/-- A pending survey exposure is given up at a CUTOFF entry and counted (R66). -/
def cutoffTrigger (s : State) : State :=
  match s.trigger.armed with
  | some l => if s.trigger.pending then withholdSupply l s else s
  | none => s

/-- The surveying lane raises ALERT at a CUTOFF entry; completion code CUTOFF if it was none (R14, R66). -/
def cutoffAlert (s : State) : State :=
  match s.map.lane with
  | some l => raiseAlert l
      (s.setLane l fun x => { x with completion := if x.completion = .none then .cutoff else x.completion })
  | none => s

/-- Entering CUTOFF (R66). Of its three effects, which R66 gives without an order, the waiting EXPOSE steps end first, then the
pending flag is cleared and the withheld exposure counted, then ALERT is raised, whose record so shows that count (DESIGN CHOICE,
log 59). -/
def enterCutoff (s : State) : State :=
  cutoffAlert (cutoffTrigger (cutoffExpose 3 (cutoffExpose 2 (cutoffExpose 1 (cutoffExpose 0 s)))))

/-- A supply sample with what a change of state brings: a CUTOFF entry (R66), or the grant point of leaving CUTOFF (R67). -/
def takeSample (mv : Nat) (s : State) : State :=
  let before := s.supply.state
  let s := { s with supply := s.supply.sample (bandOf s.supply mv) }
  if s.supply.state = .cutoff ∧ before ≠ .cutoff then enterCutoff s
  else if before = .cutoff ∧ s.supply.state ≠ .cutoff then headArbitrate s
  else s

end Sys2Proof.Machine
end

