-- ==== Sys2Proof/Machine/WallMap.lean ====
section
/-! DEFINITION. The wall map (chapter 9): windows, row slots, candidates, sinks, markers, commits, the drain and its end; with
the meanings of BEGIN, SINK, MARK, END, ROW_COMMIT_END and DRAIN_BEGIN. -/

namespace Sys2Proof.Machine

/-! ## Rows (R133, R135, R141) -/

/-- The first row of the window of a frame at P (R135). -/
def windowFirst (m : WallMap) (pos : Int) : Int := ceilDiv (pos + m.zNear) m.rowPitch

/-- The last row of the window of a frame at P (R135). -/
def windowLast (m : WallMap) (pos : Int) : Int := ceilDiv (pos + m.zFar) m.rowPitch - 1

/-- The row slot of row n (R133). -/
def rowSlot (n : Int) : Nat := (n.emod 512).toNat

/-- The staging address of row n (R133). -/
def stagingAddr (m : WallMap) (n : Int) : Word := m.staging + BitVec.ofNat 32 (rowSlot n * m.width)

/-- The record of row n when it is open (R133). -/
def openRow (m : WallMap) (n : Int) : Option RowRecord :=
  match m.rows.getD (rowSlot n) none with
  | some r => if r.row = n then some r else none
  | none => none

/-- The number of open rows. -/
def openRows (m : WallMap) : Nat := (m.rows.filter Option.isSome).length

/-- The score of a candidate row (R141). -/
def rowScore (m : WallMap) (z : Int) (glare : Nat) : Int := z + m.glareWeight * glare

/-- A candidate wins: it opens the row above h, or its score does not exceed that of the row it meets (R141). -/
def candidateWins (m : WallMap) (n score : Int) : Bool :=
  match m.range with
  | none => false
  | some r =>
    if n = r.top + 1 then true
    else if r.front ≤ n ∧ n ≤ r.top then
      match openRow m n with
      | some old => decide (score ≤ old.score)
      | none => false
    else false

/-- The map takes a winning candidate: its record is set and h rises to a row that opens (R141, R142). -/
def WallMap.takeRow (m : WallMap) (rr : RowRecord) : WallMap :=
  { m with
    rows := m.rows.set (rowSlot rr.row) (some rr)
    range := m.range.map fun r => { r with top := max r.top rr.row } }

/-- A finished survey row reaches the map as a candidate: a winner's codes go to the staging area and its record into the row
slot; a loser leaves both as they were (R141, R142). -/
def takeCandidate (rr : RowRecord) (codes : List Byte) (s : State) : State :=
  if candidateWins s.map rr.row rr.score then
    { s.store (stagingAddr s.map rr.row) codes with map := s.map.takeRow rr }
  else s

/-! ## Sinks (R144 to R148) -/

/-- The remaining capacity of the sink queue, in rows (R137). -/
def remainingCapacity (m : WallMap) : Nat := (m.sinks.map fun k => k.capacity - k.written).sum

/-- The sink that a SINK step queues (R144). -/
def newSink (x : Lane) (w : StepWord) : Sink :=
  { stepAddr := x.programAddr, addr := BitVec.ofNat 32 (w.operand 16 4), capacity := w.operand 20 2, written := 0
    firstRow := 0, note := w.noteFlag }

/-- A SINK joins the tail of the queue; its step ends at once and its done word is still to come (R27, R144). -/
def joinSink (l : LaneId) (w : StepWord) (s : State) : State :=
  advance l { s with map.sinks := s.map.sinks ++ [newSink (s.lane l) w] }

/-- Result bytes 4 to 15 of a sink's done word (R148). -/
def sinkResults (k : Sink) (reason : Nat) : List Byte :=
  leInt 4 (if k.written = 0 then 0 else k.firstRow) ++ le 4 k.written ++ le 1 reason ++ zeros 3

/-- Close a sink: its SINK step's done word is written (R148). -/
def closeSink (l : LaneId) (k : Sink) (code : DoneCode) (reason : Nat) (role : DoneRole) (s : State) : State :=
  issueDone l k.stepAddr code (sinkResults k reason) k.note role s

/-- Close sinks in queue order, each ABANDONED (R155, R157). -/
def closeAbandoned (l : LaneId) (role : DoneRole) : List Sink → State → State
  | [], s => s
  | k :: ks, s => closeAbandoned l role ks (closeSink l k .abandoned 0 role s)

/-- Close the sinks left at drain end, in queue order: partial or unused (R148, R154). -/
def closeLeft (l : LaneId) : List Sink → State → State
  | [], s => s
  | k :: ks, s =>
    closeLeft l ks (closeSink l k .exception (if k.written = 0 then 2 else 1) .sinkClose s)

/-- A SINK step waiting for room joins when a sink has left the queue (R144, R147). -/
def waitingSinkJoins (s : State) : State :=
  match s.map.lane with
  | none => s
  | some l => match (s.lane l).stage with
    | .sinkWait w => if s.map.sinks.length < Config.sinkLimit then joinSink l w s else s
    | _ => s

/-- The head sink closes full when its rows written equal its capacity (R147). -/
def closeFull (l : LaneId) (s : State) : State :=
  match s.map.sinks with
  | [] => s
  | k :: ks =>
    if k.written = k.capacity then
      waitingSinkJoins (closeSink l k .done 0 .sinkFull { s with map.sinks := ks })
    else s

/-! ## Markers (R149, R150) -/

/-- MARK's result bytes (R149). -/
def markResults (target : Option Int) : List Byte :=
  leInt 4 (target.getD 0) ++ le 1 (if target.isNone then 1 else 0) ++ zeros 7

/-- A MARK joins the tail of the marker queue with target F, or first row, and ends DONE (R149). -/
def joinMark (l : LaneId) (w : StepWord) (s : State) : State :=
  let target := s.map.range.map (·.front)
  endStep l w .done (markResults target) .advance
    { s with map.markers := s.map.markers ++ [⟨BitVec.ofNat 32 (w.operand 16 4), target⟩] }

/-- A MARK step waiting for room joins when a marker has left the queue (R149, R150). -/
def waitingMarkJoins (s : State) : State :=
  match s.map.lane with
  | none => s
  | some l => match (s.lane l).stage with
    | .markWait w => if s.map.markers.length < Config.markerLimit then joinMark l w s else s
    | _ => s

/-- The label of the marker that row n takes, if any (R150). -/
def markerFor (m : WallMap) (n : Int) : Option Word :=
  match m.markers with
  | [] => none
  | k :: _ => match k.target with
    | none => some k.label
    | some t => if t ≤ n then some k.label else none

/-- The marker that row n takes leaves the queue (R150). -/
def placeMarker (n : Int) (s : State) : State :=
  match markerFor s.map n with
  | none => s
  | some _ => waitingMarkJoins { s with map.markers := s.map.markers.drop 1 }

/-! ## Commits (R146) -/

/-- The header of a committed row (R146 layout). -/
def sinkRowHeader (n : Int) (rr : Option RowRecord) (label : Option Word) : List Byte :=
  let marked := flagAt 1 label.isSome
  let mark := le 4 (label.getD 0).toNat
  match rr with
  | some r =>
    leInt 4 n ++ leInt 4 r.z ++ le 4 r.seq.toNat ++ mark ++ leInt 4 r.pos ++ le 2 r.counts.glare ++ le 2 r.counts.clip
      ++ le 2 r.counts.out ++ le 2 r.counts.limited ++ le 1 (marked + flagAt 2 r.derated + flagAt 3 r.slip) ++ zeros 3
  | none => leInt 4 n ++ zeros 8 ++ mark ++ zeros 12 ++ le 1 (1 + marked) ++ zeros 3

/-- The codes of a committed row: read from the staging area, or zeros for a gap row (R146). -/
def committedCodes (m : WallMap) (mem : Memory) (n : Int) : List Byte :=
  match openRow m n with
  | some _ => mem.read (stagingAddr m n) m.width
  | none => zeros m.width

/-- The place of a sink's next row (R144). -/
def sinkRowAddr (m : WallMap) (k : Sink) : Word := k.addr + BitVec.ofNat 32 (k.written * (32 + m.width))

/-- Issue the commit of row n into the head sink `k`, as one of the rows up to `last` (R146 items 1 to 4). -/
def issueCommit (k : Sink) (n last : Int) (s : State) : State :=
  let rr := openRow s.map n
  let label := markerFor s.map n
  let bytes := sinkRowHeader n rr label ++ committedCodes s.map s.mem n
  let addr := sinkRowAddr s.map k
  let t := placeMarker n s
  { t with map.commit := some { row := n, last := last, gap := rr.isNone, addr := addr, bytes := bytes } }

/-- A commit's sink write has landed: rows written and the counters rise, the row slot empties, F advances (R146, log 18). -/
def landCommit (l : LaneId) (c : Commit) (s : State) : State :=
  let t := (s.store c.addr c.bytes).bump l fun n =>
    { n with committed := sat32 n.committed 1, gaps := if c.gap then sat32 n.gaps 1 else n.gaps }
  { t with map := { t.map with
      commit := none
      rows := t.map.rows.set (rowSlot c.row) none
      range := t.map.range.map fun r => { front := c.row + 1, top := max r.top c.row }
      sinks := updateAt
        (fun k => { k with written := k.written + 1, firstRow := if k.written = 0 then c.row else k.firstRow }) 0 t.map.sinks
      committedInDrain := if t.map.phase = .draining then t.map.committedInDrain + 1 else t.map.committedInDrain } }

/-! ## End of a survey (R132, R154) -/

/-- The map unbound: every slot EMPTY, F undefined, both queues empty, no ending recorded (R132). -/
def WallMap.unbound (m : WallMap) : WallMap :=
  { m with
    lane := none, rows := emptyRows, range := none, sinks := [], markers := [], ending := .none, phase := .surveying
    commit := none, committedInDrain := 0, discardedInDrain := 0, unplacedInDrain := 0, starvedDrain := false
    faulted := false }

/-- END's result bytes (R154). -/
def endResults (m : WallMap) (reason : Nat) : List Byte :=
  le 4 m.committedInDrain ++ le 4 m.discardedInDrain ++ le 1 m.unplacedInDrain ++ le 1 reason ++ zeros 2

/-- END ends after its drain: DONE, or EXCEPTION when the drain was starved (R154). -/
def finishEnd (l : LaneId) (m : WallMap) (s : State) : State :=
  match (s.lane l).stage with
  | .endWait w =>
    if m.starvedDrain then endStep l w .exception (endResults m 1) .advanceStarved s
    else endStep l w .done (endResults m 0) .advance s
  | _ => s

/-- SECONDARY at the end of the drain after a program end, with ALERT and DRAIN_STARVED when it was starved (R33, R154). The
record shows IDLE (DESIGN CHOICE, log 38). -/
def finishDrain (l : LaneId) (starved : Bool) (s : State) : State :=
  raiseStatus l { secondary := true, alert := starved } {}
    (s.setLane l fun x => { x with
      state := .idle, completion := if starved then .drainStarved else x.completion })

/-- The map unbinds and the lane goes on: after a map fault it winds down, after END its step ends, after a program end it
becomes IDLE (R34, R154, R155). -/
def endSurveyNow (s : State) : State :=
  match s.map.lane with
  | none => s
  | some l =>
    let t := { s with map := s.map.unbound }
    if s.map.faulted then windDown l t
    else match s.map.ending with
      | .endTaken => finishEnd l s.map t
      | .programEnded => finishDrain l s.map.starvedDrain t
      | .none => t

/-- A done word on which the unbinding waits is still being written (R154 item 3, R155 item 5). -/
def closingWritesLeft (s : State) : Bool :=
  s.doneWrites.any fun d => decide (d.role = .sinkClose)

/-- Unbind when the closing sinks' done words have all been written. -/
def unbindWhenClosed (s : State) : State :=
  if s.map.phase = .closing ∧ ¬ closingWritesLeft s then endSurveyNow s else s

/-- The drain ends: markers are discarded and counted, the sinks left close, and the map unbinds after their done words
(R154). -/
def endDrain (l : LaneId) (s : State) : State :=
  let left := s.map.markers.length
  let t := s.bump l fun n => { n with unplaced := sat32 n.unplaced left }
  let u := closeLeft l s.map.sinks
    { t with map := { t.map with markers := [], sinks := [], phase := .closing, commit := none, unplacedInDrain := left } }
  unbindWhenClosed u

/-- The drain runs out of sinks at row n: it and every open row above are discarded and counted (R153). -/
def starveDrain (l : LaneId) (n : Int) (s : State) : State :=
  let lost := match s.map.range with
    | some r => (r.top + 1 - n).toNat
    | none => 0
  let t := s.bump l fun k => { k with discarded := sat32 k.discarded lost }
  endDrain l { t with map := { t.map with
    rows := emptyRows, range := t.map.range.map fun _ => ⟨n, n - 1⟩, discardedInDrain := lost, starvedDrain := true } }

/-- The drain commits row n, or is starved (R153). -/
def drainRow (l : LaneId) (n last : Int) (s : State) : State :=
  match s.map.sinks with
  | [] => starveDrain l n s
  | k :: _ => issueCommit k n last s

/-! ## The forced hold (R139) -/

/-- The forced hold at an admission whose window ends at n1 (R139). It sets HOLD_PENDING whatever HALT_PENDING is (DESIGN CHOICE,
log 44). -/
def forcedHold (l : LaneId) (n1 : Int) (s : State) : State :=
  let x := s.lane l
  if ¬ s.map.holdRowUsed ∧ x.options.holdRowValid ∧ x.options.holdPermit ∧ x.holdRow ≤ n1 then
    let t := { s with map.holdRowUsed := true }
    if s.trigger.armed.isSome ∧ s.map.ending = .none ∧ (x.state = .running ∨ x.state = .suspended) then
      t.setLane l fun x => { x with holdPending := true }
    else t
  else s

/-- The last row of the render in progress when it is a survey render, for the end of its admission. -/
def renderLast (s : State) : Option Int :=
  match s.rect.render with
  | some r => match r.job with
    | .survey last _ => some last
    | .patch _ _ => none
  | none => none

/-- The rows of an admission are committed: the forced hold is evaluated (R137 item 4). -/
def endAdmission (l : LaneId) (s : State) : State :=
  match renderLast s with
  | some n1 => forcedHold l n1 s
  | none => s

/-! ## BEGIN, SINK, MARK, END -/

/-- The checks of BEGIN, in order (R130). -/
def beginCheck (s : State) (l : LaneId) (w : StepWord) : Option CheckCode :=
  if w.operand 16 2 = 0 then some .operand
  else if w.operand 18 2 < 20 ∨ 10000 < w.operand 18 2 then some .operand
  else if w.operand 20 1 = 0 then some .operand
  else if w.operand 24 4 % 4096 ≠ 0 then some .operand
  else if ¬ (s.lane l).context.complete then some .context
  else match s.map.lane with
    | some m => if m = l then some .surveyOpen else some .surveyBusy
    | none => none

/-- The map bound to lane `l` for a new survey (R131). -/
def boundMap (m : WallMap) (l : LaneId) (g : Geometry) (w : StepWord) : WallMap :=
  { m.unbound with
    lane := some l, width := g.width, zNear := g.zNear, zFar := g.zFar, rowPitch := g.rowPitch
    glareWeight := g.glareWeight, staging := BitVec.ofNat 32 (w.operand 24 4), starving := false, holdRowUsed := false }

/-- BEGIN opens the survey in one event; the arming is an evaluation of the trigger (R59, R131). -/
def openSurvey (l : LaneId) (w : StepWord) (s : State) : State :=
  let t := endStep l w .done (zeros 12) .advance s
  evalTrigger { t with
    map := boundMap s.map l (s.lane l).context.geometry w
    trigger := { armed := some l, pitch := w.operand 16 2, lReq := w.operand 20 1, tReq := w.operand 18 2, hw := none
                 pending := false } }

/-- BEGIN as taken (R130, R131). -/
def takeBegin (l : LaneId) (w : StepWord) (s : State) : State :=
  match beginCheck s l w with
  | some c => checkStep l w c s
  | none => openSurvey l w s

/-- Give up a step that waits in SINK, MARK or EXPOSE because of a HALT, and end the program at once (R35). Its results are
zeros (DESIGN CHOICE, log 42). -/
def abandonForHalt (l : LaneId) (w : StepWord) (s : State) : State :=
  endProgram l .halted none (issueDone l (s.lane l).programAddr .abandoned (zeros 12) w.noteFlag .detached s)

/-- SINK as taken (R144); a HALT_PENDING found by a SINK that has to wait abandons it (log 10). -/
def takeSink (l : LaneId) (w : StepWord) (s : State) : State :=
  if w.operand 16 4 % 16 ≠ 0 then checkStep l w .operand s
  else if w.operand 20 2 = 0 ∨ 4096 < w.operand 20 2 then checkStep l w .operand s
  else if ¬ s.surveyOpen l then checkStep l w .noSurvey s
  else if s.map.sinks.length < Config.sinkLimit then joinSink l w s
  else if (s.lane l).haltPending then abandonForHalt l w s
  else s.setLane l fun x => { x with stage := .sinkWait w }

/-- MARK as taken (R149); a HALT_PENDING found by a MARK that has to wait abandons it (log 10). -/
def takeMark (l : LaneId) (w : StepWord) (s : State) : State :=
  if ¬ s.surveyOpen l then checkStep l w .noSurvey s
  else if s.map.markers.length < Config.markerLimit then joinMark l w s
  else if (s.lane l).haltPending then abandonForHalt l w s
  else s.setLane l fun x => { x with stage := .markWait w }

/-- END as taken (R151). -/
def takeEnd (l : LaneId) (w : StepWord) (s : State) : State :=
  if ¬ s.surveyOpen l then checkStep l w .noSurvey s
  else
    let t := disarmTrigger l (s.setLane l fun x => { x with stage := .endWait w })
    { t with map.ending := .endTaken }

/-! ## Meanings -/

/-- BEGIN (R130, R131). -/
def execBeginSurvey (l : LaneId) (s : State) : Result :=
  taking l 0x08 s fun w => takeBegin l w

/-- SINK (R144). -/
def execSink (l : LaneId) (s : State) : Result :=
  taking l 0x09 s fun w => takeSink l w

/-- MARK (R149). -/
def execMark (l : LaneId) (s : State) : Result :=
  taking l 0x0A s fun w => takeMark l w

/-- END (R151). -/
def execEndSurvey (l : LaneId) (s : State) : Result :=
  taking l 0x0B s fun w => takeEnd l w

/-- What follows the landing of row `c` of the bound survey: the next row of the run, or the end of the drain or of the
admission (R137, R146, R153). -/
def afterCommit (l : LaneId) (c : Commit) (s : State) : State :=
  if c.row < c.last then
    if s.map.phase = .draining then drainRow l (c.row + 1) c.last s
    else match s.map.sinks with
      | k :: _ => issueCommit k (c.row + 1) c.last s
      | [] => s
  else if s.map.phase = .draining then endDrain l s
  else endAdmission l s

/-- A commit that outlives a CLEAR lands: it counts in its sink, and then the cleared survey's sinks close (R157). -/
def landLateCommit (q : LateCommit) (s : State) : State :=
  let t := (s.store q.commit.addr q.commit.bytes).bump q.lane fun n =>
    { n with committed := sat32 n.committed 1, gaps := if q.commit.gap then sat32 n.gaps 1 else n.gaps }
  closeAbandoned q.lane .clearing
    (updateAt (fun k => { k with
      written := k.written + 1, firstRow := if k.written = 0 then q.commit.row else k.firstRow }) 0 q.sinks) t

/-- The late commit of lane `l`, if any. -/
def lateCommitOf (s : State) (l : LaneId) : Option LateCommit :=
  s.lateCommits.find? fun q => decide (q.lane = l)

/-- Drop the late commit of lane `l`. -/
def dropLateCommit (l : LaneId) (s : State) : State :=
  { s with lateCommits := s.lateCommits.filter fun q => decide (q.lane ≠ l) }

/-- ROW_COMMIT_END (R146, R147, R157): the sink write of lane `l`'s row landed; the next row's staging read follows the
stores. -/
def execRowCommitEnd (l : LaneId) (stores : Stores) (s : State) : Result :=
  match lateCommitOf s l with
  | some q => .next (landLateCommit q ((dropLateCommit l s).withStores stores))
  | none => match s.map.lane, s.map.commit with
    | some m, some c =>
      if m = l then .next (afterCommit l c (closeFull l (landCommit l c (s.withStores stores))))
      else .refused .eventNotDue
    | _, _ => .refused .eventNotDue

/-- A slot that is a frame in hand of lane `l`'s survey (R152). -/
def Slot.inHand (l : LaneId) (x : Slot) : Bool :=
  x.surveyFrameOf l && !x.orphan && decide (x.state = .filling ∨ x.state = .ready)

/-- The bound survey has no frames in hand (R152). -/
def noFramesInHand (s : State) (l : LaneId) : Bool :=
  !(s.slots.any (Slot.inHand l)) && !surveyRenderOf s l

/-- DRAIN_BEGIN (R152, R153): rows F to h are committed in ascending order; with none open the drain ends at once. -/
def execDrainBegin (stores : Stores) (s : State) : Result :=
  match s.map.lane with
  | none => .refused .eventNotDue
  | some l =>
    if s.map.ending ≠ .none ∧ s.map.phase = .surveying ∧ s.map.commit = none ∧ noFramesInHand s l then
      let t := { s.withStores stores with map.phase := .draining }
      match s.map.range with
      | some r => if r.front ≤ r.top then .next (drainRow l r.front r.top t) else .next (endDrain l t)
      | none => .next (endDrain l t)
    else .refused .eventNotDue

end Sys2Proof.Machine
end

