-- ==== Sys2Proof/Machine/Inspect.lean ====
section
/-! DEFINITION. Inspection (chapter 11): the snapshot and dump records, their acceptance, and the meanings of SNAP_WRITE_END
and DUMP_WRITE_END. -/

namespace Sys2Proof.Machine

/-! ## The snapshot (R186) -/

/-- Slot state codes (R186). -/
def SlotState.code : SlotState → Nat
  | .free => 0
  | .filling => 1
  | .ready => 2
  | .rendering => 3
  | .done => 4
  | .kept => 5

/-- The nibble of slot `i`: its state and in-use mark, or 0xF at or above the slot count (R186). -/
def slotNibble (s : State) (i : Nat) : Nat :=
  match s.slots[i]? with
  | some x => x.state.code + flagAt 3 x.inUse
  | none => 15

/-- The slot states of the snapshot, slot i in bits 4i + 3 to 4i (R186). -/
def slotNibbles (s : State) : Nat :=
  ((List.range 8).map fun i => slotNibble s i * 16 ^ i).sum

/-- The wall map fields of the snapshot, as an empty map when it is unbound (R186). -/
def snapshotMap (s : State) : WallMap :=
  if s.map.lane.isSome then s.map
  else { s.map.unbound with starving := false, holdRowUsed := false }

/-- The map and trigger flags, byte 19 of the snapshot (R186). -/
def snapshotFlags (s : State) : Nat :=
  let m := snapshotMap s
  flagAt 0 m.range.isSome + flagAt 1 (m.lane.isSome && s.trigger.armed.isSome) + flagAt 2 (m.lane.isSome && s.trigger.pending)
    + flagAt 3 m.starving + flagAt 4 m.holdRowUsed + flagAt 5 s.headBusy

/-- The 64 bytes of a snapshot of lane `l` (R186). -/
def snapshotRecord (s : State) (l : LaneId) : List Byte :=
  let x := s.lane l
  let m := snapshotMap s
  le 4 x.snapSeq.toNat ++ le 1 x.state.code ++ le 1 s.supply.state.code
    ++ le 1 (match m.lane with
      | some k => k.val
      | none => 255)
    ++ le 1 m.sinks.length
    ++ leInt 4 (match m.range with
      | some r => r.front
      | none => 0)
    ++ leInt 4 (match m.range with
      | some r => r.top
      | none => 0)
    ++ le 2 (openRows m) ++ le 1 m.markers.length ++ le 1 (snapshotFlags s) ++ le 4 (remainingCapacity m)
    ++ le 4 s.exposure.seq.toNat ++ leInt 4 s.odo.p ++ leInt 4 s.odo.w1 ++ leInt 4 s.odo.w2 ++ le 2 s.odo.phase1
    ++ le 2 s.odo.phase2 ++ le 2 s.odo.slipCount ++ le 2 s.intake.stray ++ le 4 (slotNibbles s) ++ le 2 (activityFlags s l)
    ++ zeros 10

/-! ## The dump (R187) -/

/-- A row-slot entry of the dump (R187). -/
def dumpRow : Option RowRecord → List Byte
  | none => zeros 32
  | some r =>
    le 1 1 ++ le 1 (flagAt 0 r.derated + flagAt 1 r.slip) ++ zeros 2 ++ leInt 4 r.row ++ leInt 4 r.z ++ le 4 r.seq.toNat
      ++ leInt 4 r.pos ++ le 2 r.counts.glare ++ le 2 r.counts.clip ++ le 2 r.counts.out ++ le 2 r.counts.limited ++ zeros 4

/-- The state of marker entry `j` of the dump: empty, queued with a target row, queued with target first row (R187). -/
def markerState (m : WallMap) (j : Nat) : Nat :=
  match m.markers[j]? with
  | none => 0
  | some k => if k.target.isNone then 2 else 1

/-- Sink entry `j` of the dump. An entry past the end of the queue is all zeros, its byte 1 too (R187; log 31). -/
def dumpSink (m : WallMap) (j : Nat) : List Byte :=
  match m.sinks[j]? with
  | none => zeros 16
  | some k =>
    le 1 1 ++ le 1 (markerState m (2 * j) + 16 * markerState m (2 * j + 1)) ++ le 2 k.capacity ++ le 2 k.written ++ zeros 2 ++ le 4 k.addr.toNat
      ++ leInt 4 (if k.written = 0 then 0 else k.firstRow)

/-- Marker entry `j` of the dump (R187). -/
def dumpMarker (m : WallMap) (j : Nat) : List Byte :=
  match m.markers[j]? with
  | none => zeros 8
  | some k => le 4 k.label.toNat ++ leInt 4 (k.target.getD 0)

/-- The 16,640 bytes of a dump (R187). With the map unbound every entry is zeros, since an unbound map holds none. -/
def dumpRecord (m : WallMap) : List Byte :=
  m.rows.flatMap dumpRow ++ (List.range 8).flatMap (dumpSink m) ++ (List.range 16).flatMap (dumpMarker m)

/-! ## Acceptance (R185, R187) -/

/-- A snapshot of lane `l` is taken: the sequence number goes up, and the record's bytes 4 to 63 are to be written, then bytes
0 to 3 (R185). -/
def takeSnapshot (l : LaneId) (s : State) : State :=
  let t := s.setLane l fun x => { x with snapSeq := x.snapSeq + 1 }
  let bytes := snapshotRecord t l
  let addr := laneBlockAddr s.port.anchor l + 96
  { t with port.inspection := some ⟨.snap, [(addr + 4, bytes.drop 4), (addr, bytes.take 4)]⟩ }

/-- A dump is taken, to be written in ascending order from the lane's dump address (R187). -/
def takeDump (l : LaneId) (s : State) : State :=
  { s with port.inspection := some ⟨.dump, [((s.lane l).dumpAddr, dumpRecord s.map)]⟩ }

/-! ## Writes of an inspection record (R188) -/

/-- The parts left after the first `count` bytes of the first part are written; a count at or past its end leaves nothing of
it. -/
def dropWritten (count : Nat) (addr : Word) (bytes : List Byte) (rest : List (Word × List Byte)) : List (Word × List Byte) :=
  if count < bytes.length then (addr + BitVec.ofNat 32 count, bytes.drop count) :: rest else rest

/-- A bus write of the next `count` bytes of the inspection record in progress ended; no write goes past the end of the
record's present part (R185, R187, R188; log 26). -/
def inspectionWriteEnd (kind : InspectKind) (count : Nat) (write : WriteEnd) (s : State) : Result :=
  match s.port.inspection with
  | none => .refused .eventNotDue
  | some q =>
    if q.kind ≠ kind then .refused .eventNotDue
    else match q.parts, write with
      | (addr, bytes) :: rest, .landed =>
        let parts := dropWritten count addr bytes rest
        let t := s.store addr (bytes.take count)
        .next { t with port.inspection := if parts.isEmpty then none else some ⟨kind, parts⟩ }
      | _ :: _, .faulted left =>
        let t := s.withStores left
        .next { t with port := { t.port with recordFault := true, inspection := none } }
      | [], _ => .refused .eventNotDue

/-! ## Meanings -/

/-- SNAP_WRITE_END (R185, R188). -/
def execSnapWriteEnd (count : Nat) (write : WriteEnd) (s : State) : Result :=
  inspectionWriteEnd .snap count write s

/-- DUMP_WRITE_END (R187, R188). -/
def execDumpWriteEnd (count : Nat) (write : WriteEnd) (s : State) : Result :=
  inspectionWriteEnd .dump count write s

end Sys2Proof.Machine
end

