-- ==== Sys2Proof/Machine/Intake.lean ====
section
/-! DEFINITION. Frame intake (chapter 5): the head link's tokens, lines and repair, damage, the end of a frame; with the
strobe end and the supply tick, and the meanings of their commands. -/

namespace Sys2Proof.Machine

/-! ## Tokens (R68, R70) -/

/-- The pixels of a line token: two in every three bytes (R68). -/
def unpackPixels : List Byte → List Nat
  | a :: b :: c :: rest =>
    (a.toNat + 256 * (b.toNat % 16)) :: (b.toNat / 16 + 16 * c.toNat) :: unpackPixels rest
  | _ => []

/-- A line token after its type byte. -/
structure LineToken where
  number : Nat
  pixels : List Nat
  passes : Bool
deriving DecidableEq, Repr

/-- A line token's number, pixels, and whether its CRC passes (R68, R70). -/
def LineToken.ofBytes (bs : List Byte) : LineToken :=
  let body := bs.take (bs.length - 2)
  let crc := bs.drop (bs.length - 2)
  { number := 256 * (bs.getD 0 0).toNat + (bs.getD 1 0).toNat
    pixels := unpackPixels (body.drop 2)
    passes := decide ((crc16 body).toNat = 256 * (crc.getD 0 0).toNat + (crc.getD 1 0).toNat) }

/-- What a byte of the head link completes: a token, or an unknown byte (R68). -/
inductive HeadToken where
  | frameStart
  | line (bytes : List Byte)
  | frameEnd
  | unknown (byte : Byte)
deriving DecidableEq, Repr

/-- A byte taken at the start of a token; `len` is how many bytes follow the type byte of a line token there (R68). -/
def frameTypeByte (len : Nat) (b : Byte) : Framing × List HeadToken :=
  if b = 0xF0 then (.start, [.frameStart])
  else if b = 0xF1 then (⟨len, []⟩, [])
  else if b = 0xF2 then (.start, [.frameEnd])
  else (.start, [.unknown b])

/-- A byte taken by the link receiver, and what it completes (R68). -/
def frameByte (len : Nat) (f : Framing) (b : Byte) : Framing × List HeadToken :=
  match f.left with
  | 0 => frameTypeByte len b
  | 1 => (.start, [.line (b :: f.taken).reverse])
  | n + 2 => (⟨n + 1, b :: f.taken⟩, [])

/-- A run of bytes taken by the link receiver, and what they complete, in order (R68). -/
def frameBytes (len : Nat) : Framing → List Byte → Framing × List HeadToken
  | f, [] => (f, [])
  | f, b :: bs =>
    let p := frameByte len f b
    let q := frameBytes len p.1 bs
    (q.1, p.2 ++ q.2)

/-! ## Stray tokens and lines (R69 to R71) -/

/-- A stray token or an unknown byte (R69). -/
def countStray (s : State) : State := { s with intake.stray := sat16 s.intake.stray 1 }

/-- Write pixels as line `y` of the slot being filled. -/
def writeLine (y : Nat) (pixels : List Nat) (s : State) : State :=
  match s.exposure.inFlight with
  | some i => s.store (lineAddr s.intake i y) (lineBytes pixels)
  | none => s

/-- Repair `k` lines from the expected line on: each is written from the line buffer and counted (R71). -/
def repairLines : Nat → State → State
  | 0, s => s
  | k + 1, s =>
    let t := writeLine s.intake.expected s.intake.lineBuffer s
    repairLines k { t with intake := { t.intake with expected := t.intake.expected + 1, repaired := t.intake.repaired + 1 } }

/-- Write a good line, the expected one (R70). -/
def takeLine (pixels : List Nat) (s : State) : State :=
  let t := writeLine s.intake.expected pixels s
  { t with intake := { t.intake with expected := t.intake.expected + 1, lineBuffer := pixels } }

/-! ## End of an exposure (R74, R75) -/

/-- The exposure is over: the receiver is IDLE, the timeout stops, the head is free (R73 to R75). -/
def exposureOver (s : State) : State :=
  { s with
    intake := { s.intake with phase := .idle, timeoutRunning := false, damaged := false, completion := .none }
    exposure := { s.exposure with inFlight := none } }

/-- What damage of the frame with record `r`, orphaned or not, means for its lane (R75, R165). -/
def damageFor (r : ExposureRecord) (orphan : Bool) (s : State) : State :=
  if orphan then s
  else match r.kind with
    | .survey => s.bump r.lane fun c => { c with damaged := sat32 c.damaged 1 }
    | .patch => match (s.lane r.lane).stage with
      | .exposeFlight w => endStep r.lane w .exception (exposeResults r.seq 0 r.flagByte 0 2) .advance s
      | _ => s

/-- Damage is reported: the slot is FREE, the exposure is over, the lane learns of it, and the head is granted (R75), after the slot
has left FILLING (DEDUCED, log 55). -/
def reportDamage (s : State) : State :=
  match s.exposure.inFlight with
  | none => s
  | some i =>
    let x := s.slot i
    let t := exposureOver (s.setSlot i fun _ => Slot.empty)
    headArbitrate (match x.record with
      | some r => damageFor r x.orphan t
      | none => t)

/-- The slot and the lane when a frame completes, by kind and orphan mark (R79, R165). The mark clears as an orphaned survey frame
becomes DONE (DESIGN CHOICE, log 56). -/
def leaveFilling (i : Nat) (r : ExposureRecord) (repaired : Nat) (orphan : Bool) (s : State) : State :=
  match r.kind, orphan with
  | .survey, false =>
    let t := s.setSlot i fun x => { x with state := .ready }
    { t with requests := t.requests ++ [.survey r.lane i] }
  | .survey, true => s.setSlot i fun x => { x with state := .done, orphan := false }
  | .patch, true => s.setSlot i fun _ => Slot.empty
  | .patch, false =>
    match (s.lane r.lane).stage with
    | .exposeFlight w =>
      endStep r.lane w .done (exposeResults r.seq repaired r.flagByte i 0) .advance
        (s.setSlot i fun x => { x with state := .kept, binding := some (r.lane, w.tag) })
    | _ => s.setSlot i fun _ => Slot.empty

/-- Frame end is reported (R74): the header's repaired count and outcome are in memory, the exposure is over, the slot leaves
FILLING, and the head is granted, once the slot has left it (DEDUCED, log 55). -/
def reportFrameEnd (i : Nat) (s : State) : State :=
  let x := s.slot i
  let repaired := s.intake.repaired
  let t := exposureOver (s.store (slotAddr s.intake i + 28) (le 2 repaired ++ [1]))
  headArbitrate (match x.record with
    | some r => leaveFilling i r repaired x.orphan t
    | none => t)

/-! ## Meanings -/

/-- STROBE_END (R52, R64, R73, R75). -/
def execStrobeEnd (mv : Nat) (s : State) : Result :=
  if s.exposure.strobe then
    let t := takeSample mv { s with exposure := { s.exposure with strobe := false, led := 0 } }
    if t.intake.damaged then .next (reportDamage t)
    else .next { t with intake := { t.intake with phase := .awaitingStart, timeoutRunning := true } }
  else .refused .eventNotDue

/-- SUPPLY_TICK: in NORMAL a tick takes no sample (R64). -/
def execSupplyTick (mv : Nat) (s : State) : Result :=
  if s.supply.state = .normal then .next s else .next (takeSample mv s)

/-- A frame start token (R69, R72). -/
def takeFrameStart (s : State) : State :=
  match s.intake.phase with
  | .awaitingStart => { s with intake := { s.intake with
      phase := .receiving, expected := 0, repaired := 0, lineBuffer := List.replicate s.intake.ws 0 } }
  | .receiving => reportDamage s
  | .idle => countStray s
  | .integrating => countStray s

/-- A line token in RECEIVING (R70 to R72). -/
def receiveLine (t : LineToken) (s : State) : State :=
  let e := s.intake.expected
  if t.passes then
    if t.number < e ∨ s.intake.hs ≤ t.number then reportDamage s
    else takeLine t.pixels (repairLines (t.number - e) s)
  else if e < s.intake.hs then repairLines 1 s
  else reportDamage s

/-- A line token in the present phase (R69). -/
def takeLineToken (bytes : List Byte) (s : State) : State :=
  match s.intake.phase with
  | .receiving => receiveLine (LineToken.ofBytes bytes) s
  | .idle => countStray s
  | .integrating => countStray s
  | .awaitingStart => countStray s

/-- A frame end token (R69, R71 to R74). A second frame end while the frame completes has no further effect (log 22). -/
def takeFrameEnd (outstanding : Bool) (s : State) : State :=
  match s.intake.phase with
  | .receiving =>
    if s.intake.completion ≠ .none then s
    else
      let t := repairLines (s.intake.hs - s.intake.expected) s
      if t.intake.repairLimit < t.intake.repaired then reportDamage t
      else { t with intake := { t.intake with
        timeoutRunning := false, completion := if outstanding then .lineWrites else .headerWrite } }
  | .idle => countStray s
  | .integrating => countStray s
  | .awaitingStart => countStray s

/-- A token, or an unknown byte, is taken in the present phase (R69). -/
def takeToken (outstanding : Bool) (s : State) : HeadToken → State
  | .frameStart => takeFrameStart s
  | .line bytes => takeLineToken bytes s
  | .frameEnd => takeFrameEnd outstanding s
  | .unknown _ => countStray s

/-- The head sends bytes: the receiver frames them from where it stands, and takes what they complete. A line token has the
length of the source width in force at its type byte (R68; log 15). -/
def takeHeadBytes (outstanding : Bool) (bytes : List Byte) (s : State) : State :=
  let q := frameBytes (lineTokenLength s.intake.ws) s.intake.framing bytes
  q.2.foldl (takeToken outstanding) { s with intake.framing := q.1 }

/-- HEAD_FRAME_START (R68, R69, R72): the head sends the type byte of a frame start. -/
def execHeadFrameStart (s : State) : Result := .next (takeHeadBytes true [0xF0] s)

/-- HEAD_LINE (R68 to R72): the head sends the type byte of a line token and these bytes after it. -/
def execHeadLine (bytes : List Byte) (s : State) : Result := .next (takeHeadBytes true (0xF1 :: bytes) s)

/-- HEAD_FRAME_END (R68, R71 to R74): the head sends the type byte of a frame end. -/
def execHeadFrameEnd (outstanding : Bool) (s : State) : Result := .next (takeHeadBytes outstanding [0xF2] s)

/-- UNKNOWN_BYTE (R68, R69): the head sends this byte. -/
def execUnknownByte (b : Byte) (s : State) : Result := .next (takeHeadBytes true [b] s)

/-- READOUT_TIMEOUT (R73): the frame is damaged and the receiver is reset, a token under way discarded without being counted. -/
def execReadoutTimeout (s : State) : Result :=
  if s.intake.timeoutRunning then .next (reportDamage { s with intake.framing := .start }) else .refused .eventNotDue

/-- SLOT_WRITE_FAULT (R72, R75). While INTEGRATING the damage is decided now and reported at strobe end; with the receiver
IDLE the frame is gone and its writes are not waited on. The command names no frame: a fault is that of the exposure in flight,
be it on a write issued for an earlier frame (DESIGN CHOICE, log 39). -/
def execSlotWriteFault (left : Stores) (s : State) : Result :=
  let s := s.withStores left
  match s.intake.phase with
  | .idle => .next s
  | .integrating => .next { s with intake.damaged := true }
  | .awaitingStart => .next (reportDamage s)
  | .receiving => .next (reportDamage s)

/-- SLOT_LINE_WRITES_ENDED (R74). -/
def execSlotLineWritesEnded (s : State) : Result :=
  if s.intake.completion = .lineWrites then .next { s with intake.completion := .headerWrite }
  else .refused .eventNotDue

/-- FRAME_COMPLETE (R74, R76, R79). -/
def execFrameComplete (s : State) : Result :=
  match s.intake.completion, s.exposure.inFlight with
  | .headerWrite, some i => .next (reportFrameEnd i s)
  | _, _ => .refused .eventNotDue

end Sys2Proof.Machine
end

