-- ==== Sys2Proof/Machine/Mapping.lean ====
section
/-! DEFINITION. The mapping arithmetic (chapter 7): from a column and a depth to a source position in the raw frame. All
values are integers; `/` is the floor for a positive divisor (R99). -/

namespace Sys2Proof.Machine

/-- The first quarter of the sine table, S(0) to S(1024) (R100). -/
def sineQuarter (n : Nat) : Int := (((sineRows.getD (n / 32) []).getD (n % 32) 0 : Nat) : Int)

/-- The sine table S(n), from its first quarter by the symmetries of R100. -/
def sine (n : Nat) : Int :=
  let n := n % 4096
  if n ≤ 1024 then sineQuarter n
  else if n ≤ 2048 then sineQuarter (2048 - n)
  else if n ≤ 3072 then -sineQuarter (n - 2048)
  else -sineQuarter (4096 - n)

/-- The cosine read from the same table (R100). -/
def cosine (n : Nat) : Int := sine ((n + 1024) % 4096)

/-- The column angle a_k (R101). -/
def columnAngle (width roll k : Nat) : Nat :=
  (((k * (4096 / width) : Nat) : Int) - roll).emod 4096 |>.toNat

/-- Column k's entry of the column table (R101 to R103). -/
def columnEntry (g : Geometry) (q : Pose) (k : Nat) : Column :=
  let a := columnAngle g.width q.roll k
  let dx := ((g.radius : Int) * sine a + 16384) / 32768 - q.ex
  let dy := ((g.radius : Int) * cosine a + 16384) / 32768 - q.ey
  { angle := a, dx := dx, dy := dy, rho := (isqrt (dx * dx + dy * dy).toNat : Nat) }

/-- The column table of a render (R102). -/
def columnTable (g : Geometry) (q : Pose) : List Column :=
  (List.range g.width).map (columnEntry g q)

/-- The depth of survey row n (R105). -/
def surveyDepth (rowPitch : Nat) (pos n : Int) : Int := n * rowPitch - pos

/-- The depth of patch row j (R106). -/
def patchDepth (o : PatchOps) (j : Nat) : Int := ((o.zStart + j * o.pitch : Nat) : Int)

/-- The lens index ratio u (R107). -/
def lensRatio (rho z : Int) : Nat := (rho * 65536 / (rho + z)).toNat

/-- Linear interpolation between neighbouring table entries, with the floor of R108. -/
def interpolate (a b : Nat) (f : Nat) : Int :=
  (a : Int) + (((b : Int) - a) * f + 128) / 256

/-- The radius and the vignetting gain at lens index ratio u (R107, R108). -/
def lensAt (lens : List (Nat × Nat)) (u : Nat) : Int × Int :=
  let i := u / 256
  let f := u % 256
  let lo := lens.getD i (0, 0)
  let hi := lens.getD (i + 1) (0, 0)
  (interpolate lo.1 hi.1 f, interpolate lo.2 hi.2 f)

/-- What the mapping hands on for one pixel (R111). -/
structure Mapped where
  xs : Int
  ys : Int
  gain : Int
deriving DecidableEq, Repr

/-- The mapping of one pixel: source position and vignetting gain (R107 to R111). -/
def mapPixel (c : Context) (col : Column) (z : Int) : Mapped :=
  let rv := lensAt c.lens (lensRatio col.rho z)
  { xs := (c.geometry.cx : Int) + roundDiv (rv.1 * col.dx) col.rho
    ys := (c.geometry.cy : Int) - roundDiv (rv.1 * col.dy) col.rho
    gain := rv.2 }

end Sys2Proof.Machine
end

