-- ==== Sys2Proof/Machine/Pixel.lean ====
section
/-! DEFINITION. Sampling, gain and tone (chapter 8): from a source position to an output code, and the counts of a row. -/

namespace Sys2Proof.Machine

/-! ## Sampling (R113 to R118) -/

/-- The neighbourhood of a source position (R113). -/
structure Neighbourhood where
  x0 : Int
  fx : Int
  y0 : Int
  fy : Int
deriving DecidableEq, Repr

/-- The neighbourhood of (xs, ys): floors and mods by 16 (R113). -/
def neighbourhood (xs ys : Int) : Neighbourhood :=
  { x0 := xs / 16, fx := xs % 16, y0 := ys / 16, fy := ys % 16 }

/-- All four neighbours lie in the frame (R114). -/
def inField (q : Neighbourhood) (ws hs : Nat) : Bool :=
  decide (0 ≤ q.x0 ∧ q.x0 + 1 ≤ (ws : Int) - 1 ∧ 0 ≤ q.y0 ∧ q.y0 + 1 ≤ (hs : Int) - 1)

/-- Raw pixel (x, y) of slot `i`: the low 12 bits of the little-endian word in memory (R115). -/
def rawPixel (m : Memory) (n : Intake) (i x y : Nat) : Nat :=
  fromLe (m.read (lineAddr n i y + BitVec.ofNat 32 (2 * x)) 2) % 4096

/-- The four raw values of a neighbourhood. -/
structure RawFour where
  p00 : Nat
  p10 : Nat
  p01 : Nat
  p11 : Nat
deriving DecidableEq, Repr

/-- The largest of the four (R117). -/
def RawFour.largest (r : RawFour) : Nat := max (max r.p00 r.p10) (max r.p01 r.p11)

/-- The bilinear sample v (R118). -/
def bilinear (r : RawFour) (fx fy : Int) : Int :=
  let top := (r.p00 : Int) * (16 - fx) + r.p10 * fx
  let bottom := (r.p01 : Int) * (16 - fx) + r.p11 * fx
  (top * (16 - fy) + bottom * fy + 128) / 256

/-! ## Gain (R119 to R122) -/

/-- The distance d from the camera to the wall point (R119). -/
def wallDistance (rho z : Int) : Int := (isqrt (rho * rho + z * z).toNat : Nat)

/-- The distance q from the optical axis to the wall's tangent plane (R119). -/
def tangentDistance (col : Column) : Int :=
  (col.dx * sine col.angle + col.dy * cosine col.angle + 16384) / 32768

/-- The geometric gain Gg, in three floors (R120). -/
def geometricGain (d q dRef : Int) : Int :=
  d * 256 / dRef * d / dRef * d / q

/-- One correction by a factor in units of 1/4096 (R121). -/
def gainStep (g factor : Int) : Int := (g * factor + 2048) / 4096

/-- The gain chain g1 to g4, each step rounded, in this order (R121). -/
def gainChain (gg v sh e b : Int) : Int :=
  gainStep (gainStep (gainStep (gainStep gg v) sh) e) b

/-! ## Level and tone (R122 to R124) -/

/-- What becomes of one pixel. -/
inductive Pixel where
  | outOfField
  | glare
  | toned (code : Byte) (limited clipped : Bool)
deriving DecidableEq, Repr

/-- The output of a pixel with sample v and gain g4 (R122 to R124). -/
def tonePixel (c : Context) (v g4 : Int) : Pixel :=
  let gmax : Int := c.geometry.gainLimit
  let g := min g4 gmax
  let w := (v * g + 128) / 256
  .toned (c.tone.getD (min w 4095).toNat 0) (decide (gmax < g4)) (decide (4095 < w))

/-- The final gain of a pixel before its limit (R119 to R121). -/
def pixelGain (c : Context) (e : Nat) (col : Column) (k : Nat) (z v : Int) : Int :=
  gainChain (geometricGain (wallDistance col.rho z) (tangentDistance col) c.geometry.dRef) v (c.shade.getD k 0) e
    c.geometry.baseGain

/-- One pixel of a render: column k with its entry of the column table, at depth z (R113 to R124). `raw j x y` is what read
number j of the row finds at (x, y) of the frame; the pixel's four reads are numbered from `at_` on (R115; log 16). -/
def renderPixel (c : Context) (e : Nat) (raw : Nat → Nat → Nat → Nat) (at_ : Nat) (col : Column) (k : Nat) (z : Int) : Pixel :=
  let t := mapPixel c col z
  let q := neighbourhood t.xs t.ys
  if inField q c.geometry.ws c.geometry.hs then
    let x := q.x0.toNat
    let y := q.y0.toNat
    let r : RawFour :=
      ⟨raw at_ x y, raw (at_ + 1) (x + 1) y, raw (at_ + 2) x (y + 1), raw (at_ + 3) (x + 1) (y + 1)⟩
    if glareMember c.glare r.largest then .glare
    else tonePixel c (bilinear r q.fx q.fy) (pixelGain c e col k z t.gain)
  else .outOfField

/-- The output code of a pixel (R114, R117, R124). -/
def Pixel.code (g : Geometry) : Pixel → Byte
  | .outOfField => g.outCode
  | .glare => g.glareCode
  | .toned code _ _ => code

/-- The row counts with one pixel more (R125). -/
def RowCounts.withPixel (n : RowCounts) : Pixel → RowCounts
  | .outOfField => { n with out := sat16 n.out 1 }
  | .glare => { n with glare := sat16 n.glare 1 }
  | .toned _ limited clipped =>
    { n with
      limited := if limited then sat16 n.limited 1 else n.limited
      clip := if clipped then sat16 n.clip 1 else n.clip }

/-- Render totals with a finished row's counts (R126). -/
def RowCounts.plus (t n : RowCounts) : RowCounts :=
  { glare := sat32 t.glare n.glare, clip := sat32 t.clip n.clip, out := sat32 t.out n.out
    limited := sat32 t.limited n.limited }

/-! ## Rows (R104, R170) -/

/-- The map columns a render outputs, in order: all of them for a survey (R104), a wrapping run for a patch (R170). -/
def outputColumns (job : RenderJob) (width : Nat) : List Nat :=
  match job with
  | .survey _ _ => List.range width
  | .patch o _ => (List.range o.cols).map fun c => (o.k0 + c) % width

/-- The depth of the row in progress (R105, R106). -/
def rowDepth (r : Render) : Int :=
  match r.job with
  | .survey _ n => surveyDepth r.context.geometry.rowPitch r.pos n
  | .patch o j => patchDepth o j

/-- The pixels of the row in progress, in output order; the reads of output pixel i are numbers 4i to 4i + 3. -/
def rowPixels (r : Render) (columns : List Column) (raw : Nat → Nat → Nat → Nat) : List Pixel :=
  (outputColumns r.job r.context.geometry.width).zipIdx.map fun (k, i) =>
    renderPixel r.context r.e raw (4 * i) (columns.getD k ⟨0, 0, 0, 1⟩) k (rowDepth r)

/-- What the row's raw read number j finds at (x, y) of slot `i`: memory as it stands at that read, after those of the stores
`during` that `seen` lets come before it (R115; log 16). -/
def rawRead (m : Memory) (during : Stores) (seen : List Nat) (n : Intake) (i : Nat) (j x y : Nat) : Nat :=
  rawPixel (m.afterStores (during.take (seen.getD j 0))) n i x y

/-- The counts of a row's pixels (R125). -/
def countPixels (px : List Pixel) : RowCounts := px.foldl RowCounts.withPixel {}

/-- The codes of a row's pixels (R126). -/
def pixelCodes (g : Geometry) (px : List Pixel) : List Byte := px.map (Pixel.code g)

/-- Some pixel of the row in progress is in field, so that the row reads the raw frame (R114). -/
def rowReadsFrame (r : Render) (columns : List Column) : Bool :=
  (outputColumns r.job r.context.geometry.width).any fun k =>
    let t := mapPixel r.context (columns.getD k ⟨0, 0, 0, 1⟩) (rowDepth r)
    inField (neighbourhood t.xs t.ys) r.context.geometry.ws r.context.geometry.hs

end Sys2Proof.Machine
end

