-- ==== Sys2Proof/Machine/Render.lean ====
section
/-! DEFINITION. The render arbiter and the rectifier (chapters 8 and 10): which request is granted, admission of a survey frame
(chapter 9), the course of a render and its end; with the meanings of RENDER_GRANT, COLUMN_TABLE_END, ROW_FINISHED,
SOURCE_FAULT and PATCH_ROW_WRITE_END. -/

namespace Sys2Proof.Machine

/-! ## The request list (R158 to R161) -/

/-- A survey request of lane `l`. -/
def Request.isSurveyOf (l : LaneId) : Request → Bool
  | .survey m _ => decide (m = l)
  | .patch _ _ => false

/-- A patch request of lane `l`. -/
def Request.isPatchOf (l : LaneId) : Request → Bool
  | .survey _ _ => false
  | .patch m _ => decide (m = l)

/-- Survey requests wait while their lane is HELD, or stands where its hold comes before a grant (R161, R179; log 20). -/
def requestEligible (s : State) : Request → Bool
  | .survey l _ => decide ((s.lane l).state ≠ .held) && !holdDue s l
  | .patch _ _ => true

/-- The requests in grant order: class, lane number, survey before patch, joining order (R161). -/
def grantOrder (s : State) : List Request :=
  (lanesByClass s).flatMap fun l => s.requests.filter (Request.isSurveyOf l) ++ s.requests.filter (Request.isPatchOf l)

/-- The request that a grant point grants, none while the rectifier is busy (R161). -/
def nextGrant (s : State) : Option Request :=
  if s.rect.render.isSome then none else (grantOrder s).find? (requestEligible s)

/-! ## End of a render (R80, R162) -/

/-- The render in progress is over: the rectifier is idle, its slot moves as R80 gives. -/
def renderOver (s : State) : State :=
  match s.rect.render with
  | none => s
  | some r => { s.setSlot r.slot Slot.renderEnded with rect.render := none }

/-- The slot the render in progress reads, none when idle. -/
def renderSlot (s : State) : Option Nat := s.rect.render.map (·.slot)

/-- Slot `i` is FREE or DONE. -/
def slotOpen (s : State) (i : Nat) : Bool :=
  decide ((s.slot i).state = .free ∨ (s.slot i).state = .done)

/-- A render ends; a slot that becomes FREE or DONE there is a grant point for the head (R62, R80, R162). The head is granted before
a hold that was waiting for the render is reached (DESIGN CHOICE, log 47). -/
def renderEnd (s : State) : State :=
  match renderSlot s with
  | none => s
  | some i => if slotOpen (renderOver s) i then headArbitrate (renderOver s) else renderOver s

/-- RENDER's done-word bytes 4 to 15: four 24-bit totals (R172). -/
def renderResults (t : RowCounts) : List Byte :=
  le 3 t.glare ++ le 3 t.clip ++ le 3 t.out ++ le 3 t.limited

/-- The RENDER step that lane `l` waits in ends with the render totals (R172 to R174). -/
def finishPatch (l : LaneId) (code : DoneCode) (after : After) (s : State) : State :=
  match (s.lane l).stage with
  | .renderWait w => endStep l w code (renderResults s.rect.totals) after s
  | _ => s

/-- A render that CLEAR has stopped ends; a patch render's step ends ABANDONED with its totals (R127, R175). -/
def stopRender (r : Render) (s : State) : State :=
  match r.job with
  | .survey _ _ => renderEnd s
  | .patch _ _ =>
    issueDone r.lane (s.lane r.lane).programAddr .abandoned (renderResults s.rect.totals) false .clearing (renderEnd s)

/-! ## Admission (R136 to R138) -/

/-- A later frame that finds too little sink room is skipped (R138). -/
def skipFrame (l : LaneId) (s : State) : State :=
  let t := renderEnd (s.bump l fun c => { c with starved := sat32 c.starved 1 })
  if t.map.starving then t else raiseIntermediate l { starved := true } { t with map.starving := true }

/-- The map admits the frame whose window begins at n0: the first frame always; a later one when the sinks have room for rows
F to n0 - 1, whose commit then begins (R136, R137). -/
def admitFrame (l : LaneId) (n0 : Int) (s : State) : State :=
  match s.map.range with
  | none => endAdmission l { s with map.range := some ⟨n0, n0 - 1⟩ }
  | some r =>
    if remainingCapacity s.map < (n0 - r.front).toNat then skipFrame l s
    else
      let t := { s with map.starving := false }
      if r.front < n0 then
        match t.map.sinks with
        | k :: _ => issueCommit k r.front (n0 - 1) t
        | [] => t
      else endAdmission l t

/-! ## Render start (R98, R162) -/

/-- A render as it starts on slot `i` for lane `l`, with what it takes from the lane's context and the exposure record. -/
def newRender (s : State) (job : RenderJob) (l : LaneId) (i : Nat) (e : ExposureRecord) : Render :=
  { job := job, lane := l, slot := i, context := (s.lane l).context, pos := e.pos, e := e.e, seq := e.seq
    derated := e.derated, slip := e.slip, columns := none, writing := none, stopping := false }

/-- A survey render is granted: its slot is RENDERING and in use, and the map admits the frame (R80, R136, R162). -/
def startSurveyRender (l : LaneId) (i : Nat) (s : State) : State :=
  match (s.slot i).record with
  | none => s
  | some e =>
    let n0 := windowFirst s.map e.pos
    let job := RenderJob.survey (windowLast s.map e.pos) n0
    let t := s.setSlot i fun x => { x with state := .rendering, inUse := true }
    admitFrame l n0 { t with rect.render := some (newRender s job l i e) }

/-- A patch render is granted: its KEPT slot is in use and the totals are 0 (R80, R127, R162). -/
def startPatchRender (l : LaneId) (o : PatchOps) (s : State) : State :=
  match boundSlot s l o.tag with
  | none => s
  | some i => match (s.slot i).record with
    | none => s
    | some e =>
      let t := s.setSlot i fun x => { x with inUse := true }
      { t with rect := { t.rect with render := some (newRender s (.patch o 0) l i e), totals := {} } }

/-- Take a request from the list and start its render (R162). -/
def startRender (q : Request) (s : State) : State :=
  let t := { s with requests := s.requests.filter fun p => decide (p ≠ q) }
  match q with
  | .survey l i => startSurveyRender l i t
  | .patch l o => startPatchRender l o t

/-! ## Rows (R126, R140, R171) -/

/-- The admission of render `r` is still committing rows: no row of it is handed on yet (R137, R140; log 19). -/
def stillAdmitting (s : State) (r : Render) : Bool :=
  match r.job with
  | .survey _ _ => s.map.commit.isSome && s.surveyOpen r.lane && !r.stopping
  | .patch _ _ => false

/-- The column table of the render in progress once a row is being worked, none when no row is (R102, R171). -/
def rowColumns (s : State) (r : Render) : Option (List Column) :=
  if r.writing.isSome ∨ stillAdmitting s r then none else r.columns

/-- The row record of a finished survey row n (R133, R142). -/
def rowRecord (m : WallMap) (r : Render) (n : Int) (counts : RowCounts) : RowRecord :=
  { row := n, score := rowScore m (rowDepth r) counts.glare, z := rowDepth r, counts := counts, seq := r.seq, pos := r.pos
    derated := r.derated, slip := r.slip }

/-- A survey render has reached its end and counts as rendered (R140). -/
def surveyRendered (r : Render) (s : State) : State :=
  (renderEnd s).bump r.lane fun c => { c with rendered := sat32 c.rendered 1 }

/-- A finished survey row is handed to the map, and the render goes on to the next row, completes, or stops (R127, R140,
R143). -/
def handSurveyRow (r : Render) (last n : Int) (counts : RowCounts) (codes : List Byte) (s : State) : State :=
  let t := if surveyRenderOf s r.lane then takeCandidate (rowRecord s.map r n counts) codes s else s
  if r.stopping then renderEnd t
  else if n < last then { t with rect.render := some { r with job := .survey last (n + 1) } }
  else surveyRendered r t

/-- The destination of patch row j (R171). -/
def patchRowAddr (o : PatchOps) (j : Nat) : Word := o.dest + BitVec.ofNat 32 (j * (16 * o.stride))

/-- A finished patch row adds to the totals and its destination write is issued (R126, R171). -/
def handPatchRow (r : Render) (o : PatchOps) (j : Nat) (counts : RowCounts) (codes : List Byte) (s : State) : State :=
  { s with rect := { s.rect with
      totals := s.rect.totals.plus counts, render := some { r with writing := some (patchRowAddr o j, codes) } } }

/-- The rectifier finishes the row in progress and hands it on, memory having taken the stores `during` since its first raw
read (R104, R115, R126). The row is one command, so its counts run from 0 (R125) within it; they then stand in the rectifier until
the next row finishes, also when a source fault drops the row between (DESIGN CHOICE, log 58). -/
def finishRow (r : Render) (columns : List Column) (during : Stores) (seen : List Nat) (s : State) : State :=
  let px := rowPixels r columns (rawRead s.mem during seen s.intake r.slot)
  let codes := pixelCodes r.context.geometry px
  let counts := countPixels px
  let t := { s.withStores during with rect := { s.rect with scratch := codes, counts := counts } }
  match r.job with
  | .survey last n => handSurveyRow r last n counts codes t
  | .patch o j => handPatchRow r o j counts codes t

/-! ## Meanings -/

/-- A render grant point is served: no lane stands at the one of its leaving HELD any more (R161; log 20). -/
def grantPointPast (s : State) : State := { s with lanes := s.lanes.map Lane.grantPast }

/-- RENDER_GRANT (R161, R162). -/
def execRenderGrant (stores : Stores) (s : State) : Result :=
  match nextGrant s with
  | some q => .next (startRender q (grantPointPast (s.withStores stores)))
  | none => .refused .eventNotDue

/-- The window of a survey render has no row (log 37). -/
def windowEmpty (r : Render) : Bool :=
  match r.job with
  | .survey last n => decide (last < n)
  | .patch _ _ => false

/-- COLUMN_TABLE_END (R102): the first row boundary of the render. With no row to render a survey render ends there (log 37). -/
def execColumnTableEnd (s : State) : Result :=
  match s.rect.render with
  | none => .refused .eventNotDue
  | some r =>
    if r.columns.isSome ∨ stillAdmitting s r then .refused .eventNotDue
    else if r.stopping then .next (stopRender r s)
    else if windowEmpty r then .next (surveyRendered r s)
    else .next { s with rect.render := some { r with columns := some (columnTable r.context.geometry r.context.pose) } }

/-- ROW_FINISHED (R126). -/
def execRowFinished (reads : RowReads) (s : State) : Result :=
  match s.rect.render with
  | none => .refused .eventNotDue
  | some r => match rowColumns s r with
    | none => .refused .eventNotDue
    | some columns => .next (finishRow r columns reads.during reads.seen (s.withStores reads.stores))

/-- What a source fault means for the owner of render `r`, the render having ended (R116, R156, R174, R175). -/
def sourceFaultFor (r : Render) (s : State) : State :=
  match r.job with
  | .survey _ _ =>
    if r.stopping then s
    else raiseAlert r.lane (s.bump r.lane fun c => { c with faulted := sat32 c.faulted 1 })
  | .patch _ _ => finishPatch r.lane .exception .advanceAlert s

/-- SOURCE_FAULT (R116): due while a row that reads the raw frame is being worked. -/
def execSourceFault (s : State) : Result :=
  match s.rect.render with
  | none => .refused .eventNotDue
  | some r => match rowColumns s r with
    | none => .refused .eventNotDue
    | some columns =>
      if rowReadsFrame r columns then
        if r.stopping then .next (stopRender r s) else .next (sourceFaultFor r (renderEnd s))
      else .refused .eventNotDue

/-- A patch row's write has landed: the render stops, completes, or goes on to the next row (R171, R172, R175). -/
def patchRowLanded (r : Render) (o : PatchOps) (j : Nat) (s : State) : State :=
  if r.stopping then stopRender r s
  else if j + 1 < o.rows then
    { s with rect.render := some { r with writing := none, job := .patch o (j + 1) } }
  else finishPatch r.lane .done .advance (renderEnd s)

/-- A patch row's write has faulted (R173, R175). -/
def patchRowFaulted (r : Render) (s : State) : State :=
  if r.stopping then stopRender r s else finishPatch r.lane .exception .advanceAlert (renderEnd s)

/-- PATCH_ROW_WRITE_END (R171 to R173, R175). -/
def execPatchRowWriteEnd (write : WriteEnd) (s : State) : Result :=
  match s.rect.render with
  | none => .refused .eventNotDue
  | some r => match r.job, r.writing, write with
    | .patch o j, some (a, codes), .landed => .next (patchRowLanded r o j (s.store a codes))
    | .patch _ _, some _, .faulted left => .next (patchRowFaulted r (s.withStores left))
    | _, _, _ => .refused .eventNotDue

end Sys2Proof.Machine
end

