-- ==== Sys2Proof/Machine/MapFault.lean ====
section
/-! DEFINITION. A map fault (R34, R155): the map's side, the lane's side, and the meaning of MAP_FAULT. -/

namespace Sys2Proof.Machine

/-- Withdraw the survey requests of lane `l` (R155, R159). -/
def withdrawSurvey (l : LaneId) (s : State) : State :=
  { s with requests := s.requests.filter fun q => !Request.isSurveyOf l q }

/-- READY survey frames of lane `l` become DONE, a FILLING one is orphaned, and the requests go (R83, R155). -/
def dropSurveyFrames (l : LaneId) (s : State) : State :=
  withdrawSurvey l { s with slots := s.slots.map (Slot.surveyDropped l) }

/-- The sinks close by a map fault: the head EXCEPTION, reason fault, when the fault was on a sink write; every other
ABANDONED (R148, R155). -/
def closeFaulted (l : LaneId) (onSinkWrite : Bool) (sinks : List Sink) (s : State) : State :=
  match onSinkWrite, sinks with
  | true, k :: ks => closeAbandoned l .sinkClose ks (closeSink l k .exception 3 .sinkClose s)
  | _, ks => closeAbandoned l .sinkClose ks s

/-- The map with its rows, markers and sinks given up, waiting for the sinks' done words (R155). -/
def WallMap.faultedMap (m : WallMap) : WallMap :=
  { m with
    rows := emptyRows, range := m.range.map fun r => ⟨r.front, r.front - 1⟩, sinks := [], markers := [], commit := none
    phase := .closing, faulted := true }

/-- The map's side of a map fault on the survey of lane `l` (R155). -/
def mapFaultSurvey (l : LaneId) (onSinkWrite : Bool) (s : State) : State :=
  let t := dropSurveyFrames l (disarmTrigger l s)
  let u := if surveyRenderOf t l then renderOver t else t
  closeFaulted l onSinkWrite s.map.sinks { u with map := u.map.faultedMap }

/-- The step in progress at a map fault (R34): a wait for room, for the drain or for the strobe ends; reads, renders, frames
and done words in flight run on; nothing else is in progress. `m` is the map before the fault. The results of a SINK or MARK are
zeros (DESIGN CHOICE, log 42); a step fetched but not taken is dropped with no done word (DESIGN CHOICE, log 43). -/
def faultStep (l : LaneId) (m : WallMap) (s : State) : State :=
  match (s.lane l).stage with
  | .sinkWait w => endStep l w .abandoned (zeros 12) .advance s
  | .markWait w => endStep l w .abandoned (zeros 12) .advance s
  | .exposeWait w => endStep l w .abandoned (zeros 12) .advance s
  | .endWait w => endStep l w .exception (endResults m 2) .advance s
  | .tableRead _ _ => s
  | .exposeFlight _ => s
  | .renderWait _ => s
  | .doneWrite _ => s
  | .rest => s
  | .blockRead => s.setLane l fun x => { x with stage := .rest }
  | .fetch => s.setLane l fun x => { x with stage := .rest }
  | .boundary => s.setLane l fun x => { x with stage := .rest }
  | .tagged _ => s.setLane l fun x => { x with stage := .rest }
  | .take _ => s.setLane l fun x => { x with stage := .rest }
  | .leftHold => s.setLane l fun x => { x with stage := .rest }

/-- A lane whose program a map fault ends (R34). -/
def Lane.faulted (x : Lane) : Lane :=
  { x with
    state := .draining, haltPending := false, resumePending := false, holdPending := false, holdPosition := none
    holdPass := false, completion := .fault }

/-- The lane's side of a map fault: FAULT with ALERT and PRIMARY, or ALERT only when its program had ended before (R34). A program
whose STOP has been taken has not ended before that STOP's done word has been written (DESIGN CHOICE, log 57). -/
def mapFaultLane (l : LaneId) (m : WallMap) (s : State) : State :=
  if (s.lane l).state = .draining then raiseAlert l (s.setLane l fun x => { x with completion := .fault })
  else raiseStatus l { alert := true, primary := true } {} (faultStep l m (s.setLane l Lane.faulted))

/-- A map fault on the bound survey of lane `l` (R34, R155). The frames that become DONE are grant points (R62); the head is
arbitrated once, after all effects of the fault, the lane's own EXPOSE having been withdrawn (DESIGN CHOICE, log 54). -/
def mapFault (l : LaneId) (onSinkWrite : Bool) (s : State) : State :=
  headArbitrate (unbindWhenClosed (mapFaultLane l s.map (mapFaultSurvey l onSinkWrite s)))

/-- A map fault has ended the bound survey, and only the closing sinks' done words are still to come (R155 item 5). -/
def WallMap.endedByFault (m : WallMap) : Bool := decide (m.phase = .closing) && m.faulted

/-- An access of this kind can fault the bound survey: a staging write as long as the map is bound and no map fault has ended the
survey, also while the sinks of a finished drain close; the others during a commit (R146, R155; log 23). The staging read of a
commit has no command of its own: its fault can come at any time of the commit, also of that of a gap row, which reads no staging
(DESIGN CHOICE, log 60). -/
def mapAccessDue (m : WallMap) (a : MapAccess) : Bool :=
  (decide (a = .stagingWrite) && !m.endedByFault) || (decide (m.phase ≠ .closing) && m.commit.isSome)

/-- A fault on the commit that outlived a CLEAR is absorbed: the row is not counted and its sinks close (R157). It may be on its
staging read (DESIGN CHOICE, log 60). -/
def absorbLateFault (q : LateCommit) (s : State) : State :=
  closeAbandoned q.lane .clearing q.sinks (dropLateCommit q.lane s)

/-- MAP_FAULT (R34, R155, R157). A staging write whose survey is over faults without effect (log 23). When the staging read of a
commit can fault is the model's choice (DESIGN CHOICE, log 60). -/
def execMapFault (l : LaneId) (access : MapAccess) (left : Stores) (s : State) : Result :=
  let t := s.withStores left
  if s.surveyOpen l ∧ mapAccessDue s.map access then .next (mapFault l (decide (access = .sinkWrite)) t)
  else if access = .stagingWrite then .next t
  else match lateCommitOf s l with
    | some q => .next (absorbLateFault q t)
    | none => .refused .eventNotDue

end Sys2Proof.Machine
end

