-- ==== Sys2Proof/Machine/Odometer.lean ====
section
/-! DEFINITION. The odometer (chapter 3): filters, decoders, counts, the position p, slip resync, and what a settings load
does to them; with the meanings of INPUT_PIN_CHANGE and ACCEPTED_EDGE. -/

namespace Sys2Proof

/-! ## Inputs (R38, R39) -/

/-- The level of one input. -/
def PinLevels.level (q : PinLevels) : Input → Bool
  | .a1 => q.a1
  | .b1 => q.b1
  | .a2 => q.a2
  | .b2 => q.b2
  | .dir => q.dir

/-- Set the level of one input. -/
def PinLevels.withLevel (q : PinLevels) (i : Input) (v : Bool) : PinLevels :=
  match i with
  | .a1 => { q with a1 := v }
  | .b1 => { q with b1 := v }
  | .a2 => { q with a2 := v }
  | .b2 => { q with b2 := v }
  | .dir => { q with dir := v }

/-- The (A, B) levels of a wheel. -/
def PinLevels.pair (q : PinLevels) : Wheel → Bool × Bool
  | .one => (q.a1, q.b1)
  | .two => (q.a2, q.b2)

/-- The A and B inputs of a wheel. -/
def Wheel.inputA : Wheel → Input
  | .one => .a1
  | .two => .a2

/-- The B input of a wheel. -/
def Wheel.inputB : Wheel → Input
  | .one => .b1
  | .two => .b2

/-- The wheel an input belongs to, none for DIR. -/
def Input.wheel : Input → Option Wheel
  | .a1 => some .one
  | .b1 => some .one
  | .a2 => some .two
  | .b2 => some .two
  | .dir => none

/-- The wheel whose pair an edge changes, none for DIR. -/
def Edge.wheel : Edge → Option Wheel
  | .single i => i.wheel
  | .both w => some w

end Sys2Proof

namespace Sys2Proof.Machine

/-- The filter timer of an input is running: its pin differs from its accepted level (R38). -/
def timerRunning (o : Odometer) (i : Input) : Bool := decide (o.pins.level i ≠ o.accepted.level i)

/-- The timers that an edge needs are running. -/
def edgeDue (o : Odometer) : Edge → Bool
  | .single i => timerRunning o i
  | .both w => timerRunning o w.inputA && timerRunning o w.inputB

/-- The inputs of an edge take their pins' levels. -/
def acceptLevels (o : Odometer) : Edge → Odometer
  | .single i => { o with accepted := o.accepted.withLevel i (o.pins.level i) }
  | .both w =>
    let a := o.accepted.withLevel w.inputA (o.pins.level w.inputA)
    { o with accepted := a.withLevel w.inputB (o.pins.level w.inputB) }

/-! ## Wheels -/

/-- The mode of a wheel. -/
def Odometer.mode (o : Odometer) : Wheel → WheelMode
  | .one => o.mode1
  | .two => o.mode2

/-- The decoder pair of a wheel. -/
def Odometer.decoderPair (o : Odometer) : Wheel → Bool × Bool
  | .one => o.pair1
  | .two => o.pair2

/-- Set the decoder pair of a wheel. -/
def Odometer.withPair (o : Odometer) (w : Wheel) (q : Bool × Bool) : Odometer :=
  match w with
  | .one => { o with pair1 := q }
  | .two => { o with pair2 := q }

/-- The count of a wheel. -/
def Odometer.count (o : Odometer) : Wheel → Int
  | .one => o.w1
  | .two => o.w2

/-- Set the count of a wheel. -/
def Odometer.withCount (o : Odometer) (w : Wheel) (v : Int) : Odometer :=
  match w with
  | .one => { o with w1 := v }
  | .two => { o with w2 := v }

/-- One phase error of a wheel (R40). -/
def Odometer.phaseError (o : Odometer) : Wheel → Odometer
  | .one => { o with phase1 := sat16 o.phase1 1 }
  | .two => { o with phase2 := sat16 o.phase2 1 }

/-- What a decoder makes of a change: nothing, a count up or down, or a phase error. -/
inductive Decoded where
  | nothing | up | down | error
deriving DecidableEq, Repr

/-- A QUAD decoder (R40 table). -/
def quadDecode (old new : Bool × Bool) : Decoded :=
  if old = new then .nothing
  else if old.1 ≠ new.1 ∧ old.2 ≠ new.2 then .error
  else match old, new with
    | (false, false), (true, false) => .up
    | (true, false), (true, true) => .up
    | (true, true), (false, true) => .up
    | (false, true), (false, false) => .up
    | _, _ => .down

/-- A PULSE decoder: a rising edge of A counts in the direction of DIR (R41). -/
def pulseDecode (old new : Bool × Bool) (dir : Bool) : Decoded :=
  if old.1 = false ∧ new.1 = true then (if dir then .up else .down) else .nothing

/-- What a wheel's decoder makes of a new accepted pair (R40, R41). -/
def decodeChange (o : Odometer) (w : Wheel) (new : Bool × Bool) : Decoded :=
  match o.mode w with
  | .off => .nothing
  | .quad => quadDecode (o.decoderPair w) new
  | .pulse => pulseDecode (o.decoderPair w) new o.accepted.dir

/-! ## Counts (R42, R43, R45) -/

/-- Both wheels are enabled. -/
def Odometer.bothEnabled (o : Odometer) : Bool := decide (o.mode1 ≠ .off ∧ o.mode2 ≠ .off)

/-- The counts are further apart than an enabled slip limit allows (R43). -/
def Odometer.slipped (o : Odometer) : Bool :=
  o.bothEnabled && decide (0 < o.slipLimit) && decide (o.slipLimit < (o.w1 - o.w2).natAbs)

/-- Slip resync: the wheel that is not at p is set to p (R43). -/
def resync (o : Odometer) : Odometer :=
  if o.slipped then { o with w1 := o.p, w2 := o.p, slipCount := sat16 o.slipCount 1, slipFlag := true } else o

/-- The new p when a wheel has come to `wi` in direction `d` (R42). -/
def followWheel (p wi d : Int) : Int := if wi = p + d then wi else p

/-- A count fits the limits of a wheel count (R45). -/
abbrev countFits (v : Int) : Prop := -2147483648 ≤ v ∧ v ≤ 2147483647

/-- One count of a wheel in direction `d`, 1 or -1: dropped at a limit, else p is updated and the resync evaluated (R42, R43,
R45). -/
def countWheel (w : Wheel) (d : Int) (o : Odometer) : Odometer :=
  let v := o.count w + d
  if countFits v then resync { o.withCount w v with p := followWheel o.p v d }
  else { o with saturated := true }

/-- The odometer after a decoder's finding. -/
def applyDecoded (w : Wheel) (o : Odometer) : Decoded → Odometer
  | .nothing => o
  | .up => countWheel w 1 o
  | .down => countWheel w (-1) o
  | .error => o.phaseError w

/-- A wheel's decoder takes a new accepted pair (R39 to R41). -/
def takePair (w : Wheel) (o : Odometer) : Odometer :=
  let new := o.accepted.pair w
  (applyDecoded w o (decodeChange o w new)).withPair w new

/-- An accepted edge in the odometer (R38, R39). An edge of DIR has no effect of its own (R41). -/
def acceptEdge (e : Edge) (o : Odometer) : Odometer :=
  match e.wheel with
  | some w => takePair w (acceptLevels o e)
  | none => acceptLevels o e

/-- Replace the odometer; a change of p is offered to the survey trigger (R47). -/
def offerPosition (o : Odometer) (s : State) : State :=
  if o.p = s.odo.p then { s with odo := o } else evalTrigger { s with odo := o }

/-! ## Settings load (R51) -/

/-- The odometer takes new wheel settings; the decoder pair of a wheel whose mode changed becomes its accepted pair
(R51 item 1, R39). -/
def takeWheelSettings (c : Settings) (o : Odometer) : Odometer :=
  let m1 := WheelMode.ofCode c.mode1
  let m2 := WheelMode.ofCode c.mode2
  { o with
    mode1 := m1, mode2 := m2, filterCode := c.filterCode, scale := c.scale, slipLimit := c.slipLimit
    pair1 := if m1 = o.mode1 then o.pair1 else o.accepted.pair .one
    pair2 := if m2 = o.mode2 then o.pair2 else o.accepted.pair .two }

/-- Running filter timers judged against a new filter time: each that has held its level that long is accepted, in the order
given (R38, log 21). -/
def acceptOverdue : List (Edge × Nat) → Odometer → Odometer
  | [], o => o
  | (e, held) :: rest, o =>
    if edgeDue o e ∧ Config.filterTimeUs o.filterCode ≤ held then acceptOverdue rest (acceptEdge e o)
    else acceptOverdue rest o

/-- The zero flag (R51 item 2). -/
def zeroCounts (flag : Nat) (o : Odometer) : Odometer :=
  if flag = 1 then { o with w1 := 0, w2 := 0, p := 0 } else o

/-- The counts a load clears (R51 item 3). -/
def clearCounts (o : Odometer) : Odometer :=
  { o with phase1 := 0, phase2 := 0, slipCount := 0, slipFlag := false, saturated := false }

/-- A wheel enabled alone is brought to p (R51 item 4). -/
def alignSingle (o : Odometer) : Odometer :=
  match o.mode1, o.mode2 with
  | .off, .off => o
  | .off, _ => { o with w2 := o.p }
  | _, .off => { o with w1 := o.p }
  | _, _ => o

/-- The odometer's side of a settings load that ends CONFIGURED, items 1 to 5 (R51). Within item 1 the decoder pairs of changed modes
are set before overdue edges are accepted (DEDUCED, log 21). -/
def loadOdometer (c : Settings) (timers : List (Edge × Nat)) (o : Odometer) : Odometer :=
  let taken := takeWheelSettings c o
  let judged := if o.filterCode = c.filterCode then taken else acceptOverdue timers taken
  resync (alignSingle (clearCounts (zeroCounts c.zeroFlag judged)))

/-! ## Meanings -/

/-- INPUT_PIN_CHANGE (R38): the pin takes a level; its timer runs exactly while it differs from the accepted level. -/
def execInputPinChange (i : Input) (level : Bool) (s : State) : Result :=
  .next { s with odo.pins := s.odo.pins.withLevel i level }

/-- ACCEPTED_EDGE (R38 to R43, R45, R47). -/
def execAcceptedEdge (e : Edge) (s : State) : Result :=
  if edgeDue s.odo e then .next (offerPosition (acceptEdge e s.odo) s) else .refused .eventNotDue

end Sys2Proof.Machine
end

