-- ==== Sys2Proof/Machine/Clear.lean ====
section
/-! DEFINITION. CLEAR of a lane (R10, R11, R36, R83, R157, R175) and the meaning of CLEARING_END. -/

namespace Sys2Proof.Machine

/-! ## The step in progress (R36) -/

/-- A done word written on behalf of a CLEAR, into the lane's step in progress: ABANDONED, no NOTE (R28, R36). -/
def abandonStep (l : LaneId) (results : List Byte) (s : State) : State :=
  issueDone l (s.lane l).programAddr .abandoned results false .clearing s

/-- The results of an EXPOSE abandoned after its strobe: the sequence number and flags (R166). -/
def abandonedExposeResults (s : State) : List Byte :=
  match s.exposure.inFlight with
  | none => zeros 12
  | some i => match (s.slot i).record with
    | none => zeros 12
    | some e => exposeResults e.seq 0 e.flagByte 0 0

/-- A RENDER abandoned by CLEAR: a request still in the list is withdrawn and the step ends with totals 0; a render in progress
is left to its row boundary, where its step ends (R175). -/
def abandonRender (l : LaneId) (s : State) : State :=
  if s.requests.any (Request.isPatchOf l) then
    abandonStep l (zeros 12) { s with requests := s.requests.filter fun q => !Request.isPatchOf l q }
  else s

/-- A read whose data CLEAR discards (R7, R11, R36). -/
def discardRead (l : LaneId) (r : DiscardedRead) (s : State) : State :=
  s.setLane l fun x => { x with discarding := some r }

/-- What CLEAR does to the step lane `l` is in (R10 item 5, R36). The results of a SINK or MARK are zeros (DESIGN CHOICE, log 42);
those of END are the counts of the drain so far, without a row whose write is in flight, and reason 0 (DESIGN CHOICE, log 45). -/
def clearStep (l : LaneId) (s : State) : State :=
  match (s.lane l).stage with
  | .blockRead => discardRead l .block s
  | .tableRead _ _ => discardRead l .table (abandonStep l (zeros 12) s)
  | .sinkWait _ => abandonStep l (zeros 12) s
  | .markWait _ => abandonStep l (zeros 12) s
  | .exposeWait _ => abandonStep l (zeros 12) s
  | .endWait _ => abandonStep l (endResults s.map 0) s
  | .exposeFlight _ => abandonStep l (abandonedExposeResults s) s
  | .renderWait _ => abandonRender l s
  | .rest => s
  | .fetch => s
  | .boundary => s
  | .tagged _ => s
  | .take _ => s
  | .doneWrite _ => s
  | .leftHold => s

/-- A done word of lane `l` already being written when the lane is cleared: it lands, raises nothing, and nothing waits on it
(log 13). -/
def DoneWrite.detach (l : LaneId) (d : DoneWrite) : DoneWrite :=
  if d.lane = l ∧ d.role ≠ .clearing then { d with role := .detached, note := false } else d

/-- Detach lane `l`'s done words in flight. -/
def detachWrites (l : LaneId) (s : State) : State :=
  { s with doneWrites := s.doneWrites.map (DoneWrite.detach l) }

/-- A render of lane `l` in progress stops at its next row boundary (R127). -/
def stopRenderOf (l : LaneId) (s : State) : State :=
  { s with rect.render := s.rect.render.map fun r => if r.lane = l then { r with stopping := true } else r }

/-! ## The survey (R10 item 3, R157) -/

/-- The sinks of a cleared survey: closed at once, or after the commit in progress has ended (R157). -/
def clearSinks (l : LaneId) (sinks : List Sink) (commit : Option Commit) (s : State) : State :=
  match commit with
  | some c => { s with lateCommits := s.lateCommits ++ [⟨l, c, sinks⟩] }
  | none => closeAbandoned l .clearing sinks s

/-- CLEAR of the surveying lane on the map's side (R83, R157). -/
def clearSurvey (l : LaneId) (s : State) : State :=
  if s.surveyOpen l then
    clearSinks l s.map.sinks s.map.commit
      { dropSurveyFrames l (disarmTrigger l s) with map := s.map.unbound }
  else s

/-! ## The lane (R10) -/

/-- A context made invalid: flags clear, contents as they were (R86). -/
def Context.invalid (c : Context) : Context :=
  { c with geometryValid := false, lensValid := false, shadeValid := false, toneValid := false, glareValid := false }

/-- A lane that CLEAR has reached (R10 items 1, 2 and 6). -/
def Lane.cleared (x : Lane) : Lane :=
  { x with
    state := .clearing, stage := .rest, haltPending := false, resumePending := false, holdPending := false
    holdPosition := none, holdPass := false, afterJump := false, completion := .cleared, check := .none
    statusPending := false, kinds := {}, reasons := {}, notes := 0, context := x.context.invalid }

/-- The effects of an accepted CLEAR on a lane that is not CLEARING (R10). The slots it makes FREE or DONE are grant points (R83);
the head is arbitrated once, after all effects of the CLEAR, the lane's own EXPOSE having been withdrawn (DESIGN CHOICE, log 54). -/
def clearLane (l : LaneId) (s : State) : State :=
  let t := clearSurvey l (stopRenderOf l (clearStep l (detachWrites l s)))
  let u := { t with slots := t.slots.map (Slot.laneCleared l) }
  headArbitrate (leaveQueue l (u.setLane l Lane.cleared))

/-! ## The end of CLEARING (R11) -/

/-- A stopped render of lane `l` has not ended. -/
def stoppedRenderLeft (s : State) (l : LaneId) : Bool :=
  match s.rect.render with
  | some r => decide (r.lane = l) && r.stopping
  | none => false

/-- Something that holds lane `l` in CLEARING has not ended (R11). -/
def clearingLeft (s : State) (l : LaneId) : Bool :=
  stoppedRenderLeft s l || s.doneWrites.any (fun d => decide (d.lane = l ∧ d.role = .clearing))
    || (s.lane l).discarding.isSome || (lateCommitOf s l).isSome

/-- CLEARING_END (R11): the lane is IDLE and raises status with no kinds. -/
def execClearingEnd (l : LaneId) (s : State) : Result :=
  if (s.lane l).state = .clearing ∧ ¬ clearingLeft s l then
    .next (raiseStatus l {} {} (s.setLane l fun x => { x with state := .idle }))
  else .refused .eventNotDue

end Sys2Proof.Machine
end

