-- ==== Sys2Proof/Machine/Program.lean ====
section
/-! DEFINITION. The course of a program (chapter 2): the lane-block read, step fetches, JUMP, STOP, the end of a done-word
write and the reaching of a hold. -/

namespace Sys2Proof.Machine

/-! ## The lane-block read (R7) -/

/-- The class that a lane block gives. A lane that is status pending goes over to the tail of the new class's queue (R16;
log 24). -/
def takeClass (l : LaneId) (c : LaneId) (s : State) : State :=
  if (s.lane l).cls = c then s
  else
    let t := (leaveQueue l s).setLane l fun x => { x with cls := c }
    if (s.lane l).statusPending then joinQueue l t else t

/-- The lane takes the other fields of its block; no step has been fetched, so the program address is the step address
reported at a program's end (R7, R33), and, until a fetch ends, in every other record of the lane too (DESIGN CHOICE, log 61). -/
def Lane.takeBlock (x : Lane) (b : LaneBlock) : Lane :=
  { x with
    programAddr := b.programAddr, lastStep := b.programAddr, options := b.options, holdRow := b.holdRow
    dumpAddr := b.dumpAddr }

/-- The lane-block read of lane `l` has ended with its data in memory (R7, R24). -/
def takeLaneBlock (l : LaneId) (s : State) : State :=
  let b := LaneBlock.ofBytes (s.mem.read (laneBlockAddr s.port.anchor l) 16)
  let t := (takeClass l b.cls s).setLane l fun x => x.takeBlock b
  if b.programAddr.toNat % 32 ≠ 0 then endProgram l .check (some .operand) t else boundary l t

/-- The lane-block read of lane `l` met a memory fault (R7). The block's address, which R7 has the record of this end report, stands
in every later record of the lane too, until its next block read or fetch ends (DESIGN CHOICE, log 61). -/
def blockReadFault (l : LaneId) (s : State) : State :=
  endProgram l .check (some .memory) (s.setLane l fun x => { x with lastStep := laneBlockAddr s.port.anchor l })

/-- LANE_BLOCK_READ_END (R7, R11). -/
def execLaneBlockReadEnd (l : LaneId) (read : ReadEnd) (s : State) : Result :=
  match (s.lane l).stage, (s.lane l).discarding with
  | .blockRead, _ => match read with
    | .faulted => .next (blockReadFault l s)
    | .arrived stores => .next (takeLaneBlock l (s.withStores stores))
  | _, some .block =>
    let t := s.setLane l fun x => { x with discarding := none }
    match read with
    | .faulted => .next t
    | .arrived stores => .next (t.withStores stores)
  | _, _ => .refused .eventNotDue

/-! ## Step fetches (R23) -/

/-- A lane's first fetch completes: RUNNING, and INITIAL if asked for (R7, R28). -/
def enterRunning (l : LaneId) (s : State) : State :=
  if (s.lane l).state = .starting then
    let t := s.setLane l fun x => { x with state := .running }
    if (s.lane l).options.initial then raiseIntermediate l { initial := true } t else t
  else s

/-- A step word has arrived: the JUMP_CHAIN test, then examination (R23, R25). -/
def stepArrived (l : LaneId) (w : StepWord) (s : State) : State :=
  let t := enterRunning l s
  if (s.lane l).afterJump ∧ w.code = 0x20 then checkStep l w .jumpChain t else examineStep l w t

/-- The lane fetches no longer: its fetch has ended, and its address is that of the last step fetched (R14, R23). -/
def Lane.fetchEnded (x : Lane) : Lane := { x with stage := .rest, lastStep := x.programAddr }

/-- STEP_FETCH (R20, R23). After a faulted first fetch no INITIAL is raised (log 32). -/
def execStepFetch (l : LaneId) (read : ReadEnd) (s : State) : Result :=
  match (s.lane l).stage with
  | .fetch => match read with
    | .faulted => .next (endProgram l .check (some .memory) (s.setLane l Lane.fetchEnded))
    | .arrived stores =>
      let t := (s.withStores stores).setLane l Lane.fetchEnded
      .next (stepArrived l (StepWord.ofBytes (t.mem.read (s.lane l).programAddr 32)) t)
  | _ => .refused .eventNotDue

/-! ## Flow steps (R29, R30) -/

/-- JUMP as taken (R29). -/
def takeJump (l : LaneId) (w : StepWord) (s : State) : State :=
  if w.operand 16 4 % 32 ≠ 0 then checkStep l w .operand s
  else endStep l w .done (zeros 12) (.jump (BitVec.ofNat 32 (w.operand 16 4))) s

/-- JUMP (R29). -/
def execJump (l : LaneId) (s : State) : Result :=
  taking l 0x20 s fun w => takeJump l w

/-- STOP (R30). -/
def execStop (l : LaneId) (s : State) : Result :=
  taking l 0x21 s fun w => endStep l w .done (zeros 12) .stop

/-! ## The end of a done-word write (R21, R28) -/

/-- The raise of NOTE after the done word of a NOTE-flagged step (R28), before anything else that follows the word (R30, R173; in other
cases DESIGN CHOICE, logs 52 and 53). -/
def noteAfterDoneWord (d : DoneWrite) (s : State) : State :=
  if d.note ∧ d.role ≠ .clearing then raiseIntermediate d.lane { note := true } s else s

/-- The ALERT that precedes NOTE, for the lane's own step (R154, R173). R173 orders the two for a render; that an END whose drain was
starved raises them in the same order is the model's (DESIGN CHOICE, log 49). -/
def alertFor (d : DoneWrite) (s : State) : State :=
  match d.role, (s.lane d.lane).stage with
  | .current, .doneWrite after => alertAfterDoneWord d.lane after s
  | _, _ => s

/-- Who goes on when a done word has been written: the lane, or the closing map (R27, R154, R155). -/
def goOnAfter (d : DoneWrite) (s : State) : State :=
  match d.role with
  | .current => match (s.lane d.lane).stage with
    | .doneWrite after => afterDoneWord d.lane after s
    | _ => s
  | .sinkClose => unbindWhenClosed s
  | .sinkFull => s
  | .detached => s
  | .clearing => s

/-- A done-word write has ended, landed or faulted: the lane carries on alike (R21). ALERT comes before NOTE (R173; for END DESIGN
CHOICE, log 49). NOTE comes before the program ends (R30 for STOP; after a check, or with HALT_PENDING, DESIGN CHOICE, log 52), and
before the map unbinds or the lane's wind-down ends (DESIGN CHOICE, log 53). -/
def doneWordWritten (d : DoneWrite) (s : State) : State := goOnAfter d (noteAfterDoneWord d (alertFor d s))

/-- The memory and the record-fault flag after a done-word write's end (R21). -/
def doneWriteEffect (d : DoneWrite) (write : WriteEnd) (s : State) : State :=
  match write with
  | .landed => { s with mem := d.landIn s.mem }
  | .faulted left => { s.withStores left with port.recordFault := true }

/-- The place in the list of the `nth` done word in flight for lane `l`, oldest first. -/
def nthDoneWrite (s : State) (l : LaneId) (nth : Nat) : Option Nat :=
  (positions (fun d => decide (d.lane = l)) 0 s.doneWrites)[nth]?

/-- DONE_WORD_WRITE_END (R21). -/
def execDoneWordWriteEnd (l : LaneId) (nth : Nat) (write : WriteEnd) (s : State) : Result :=
  match nthDoneWrite s l nth with
  | none => .refused .eventNotDue
  | some i => match s.doneWrites[i]? with
    | none => .refused .eventNotDue
    | some d => .next (doneWordWritten d (doneWriteEffect d write { s with doneWrites := removeAt i s.doneWrites }))

/-! ## Holds (R179, R180) -/

/-- Lane `l` stands at the render grant point of its leaving HELD, and a request is there to be granted first (R161, R184;
log 20). -/
def grantComesFirst (s : State) (l : LaneId) : Bool :=
  decide ((s.lane l).stage = .leftHold) && (nextGrant s).isSome

/-- HOLD_REACHED (R179). -/
def execHoldReached (l : LaneId) (s : State) : Result :=
  match holdPlace (s.lane l) with
  | some pos => if surveyRenderOf s l ∨ grantComesFirst s l then .refused .eventNotDue else .next (reachHold l pos s)
  | none => .refused .eventNotDue

end Sys2Proof.Machine
end

