-- ==== Sys2Proof/Machine/Orders.lean ====
section
/-! DEFINITION. The slave port (chapter 1): screening, the ten orders, the register accesses, and the meanings of their
commands. An access that finds a status record being written is held until the write has ended (R13, log 11). -/

namespace Sys2Proof.Machine

/-! ## Results and screening (R2) -/

/-- Set RESULT's result code. -/
def State.withResult (s : State) (c : ResultCode) : State := { s with port.result := c }

/-- The order is refused BUSY. -/
def refuseBusy (s : State) : State := s.withResult .busy

/-- The order is refused PENDING, which adds the kind PENDING to the lane's status (R2, R13). -/
def refusePending (l : LaneId) (s : State) : State :=
  raiseStatus l { pending := true } {} (s.withResult .pending)

/-- Tests 2 and 3 of the screening; `exempt` marks TAKE and SNAP (R2). -/
def screened (exempt : Bool) (order : State → State) (s : State) : State :=
  match s.port.config with
  | .loading => refuseBusy s
  | .unconfigured => if exempt then order s else s.withResult .unconfigured
  | .configured => order s

/-! ## START, RESUME, HALT, TAKE (R7 to R9, R12) -/

/-- A lane that START was accepted for (R7). -/
def Lane.started (x : Lane) : Lane :=
  { x with
    state := .starting, stage := .blockRead, afterJump := false, counters := {}, completion := .none, check := .none }

/-- START's own rule (R7). -/
def ruleStart (l : LaneId) (s : State) : State :=
  if (s.lane l).state ≠ .idle then refuseBusy s
  else if (s.lane l).statusPending then refusePending l s
  else (s.withResult .accepted).setLane l Lane.started

/-- RESUME of a lane that has RESUME_PENDING to set (R8). -/
def resumeLater (l : LaneId) (s : State) : State :=
  if (s.lane l).resumePending then refuseBusy s
  else (s.withResult .accepted).setLane l fun x => { x with resumePending := true }

/-- RESUME of a SUSPENDED lane (R8). -/
def resumeNow (l : LaneId) (s : State) : State :=
  if (s.lane l).statusPending then refusePending l s
  else (s.withResult .accepted).setLane l fun x => { x with state := .running, stage := .fetch }

/-- A STOP of this lane has been taken and its done word is still being written: the program is as good as ended, so that HALT
is refused (R9), and the model refuses RESUME, HOLD and GO with it (log 9). -/
def stopTaken (x : Lane) : Bool := decide (x.stage = .doneWrite .stop)

/-- RESUME of a RUNNING lane (R8; log 9). -/
def resumeRunning (l : LaneId) (s : State) : State :=
  if stopTaken (s.lane l) then refuseBusy s else resumeLater l s

/-- RESUME's own rule (R8). -/
def ruleResume (l : LaneId) (s : State) : State :=
  match (s.lane l).state with
  | .suspended => resumeNow l s
  | .starting => resumeLater l s
  | .running => resumeRunning l s
  | .held => resumeLater l s
  | .idle => refuseBusy s
  | .draining => refuseBusy s
  | .clearing => refuseBusy s

/-- What an accepted HALT does to a STARTING or RUNNING lane, beyond HALT_PENDING: at a boundary or a tagged hold point the
program ends at once, and a wait for room or for the head is abandoned (R9, R35, R179, R180). A step being fetched, or fetched and
not yet taken, is taken still; when it is STOP the program ends NORMAL and HALT_PENDING is dropped (DESIGN CHOICE, log 41). -/
def haltAt (l : LaneId) (s : State) : State :=
  match (s.lane l).stage with
  | .boundary => endProgram l .halted none s
  | .tagged _ => endProgram l .halted none s
  | .sinkWait w => abandonForHalt l w s
  | .markWait w => abandonForHalt l w s
  | .exposeWait w => abandonForHalt l w s
  | .rest => s
  | .blockRead => s
  | .fetch => s
  | .take _ => s
  | .tableRead _ _ => s
  | .endWait _ => s
  | .exposeFlight _ => s
  | .renderWait _ => s
  | .doneWrite _ => s
  | .leftHold => s

/-- HALT of a STARTING or RUNNING lane. A STOP that has been taken is ending the program already, and HALT is refused (R9;
log 9). -/
def haltRunning (l : LaneId) (s : State) : State :=
  if (s.lane l).haltPending ∨ stopTaken (s.lane l) then refuseBusy s
  else haltAt l ((s.withResult .accepted).setLane l fun x => { x with haltPending := true })

/-- HALT's own rule (R9). -/
def ruleHalt (l : LaneId) (s : State) : State :=
  match (s.lane l).state with
  | .suspended => endProgram l .halted none (s.withResult .accepted)
  | .held => endProgram l .halted none (s.withResult .accepted)
  | .starting => haltRunning l s
  | .running => haltRunning l s
  | .idle => refuseBusy s
  | .draining => refuseBusy s
  | .clearing => refuseBusy s

/-- A lane whose status TAKE or CLEAR clears (R12). -/
def Lane.statusTaken (x : Lane) : Lane :=
  { x with statusPending := false, kinds := {}, reasons := {}, notes := 0 }

/-- TAKE's own rule; result 1 says that there is nothing to take (R12). -/
def ruleTake (l : LaneId) (s : State) : State :=
  if (s.lane l).statusPending then leaveQueue l ((s.withResult .accepted).setLane l Lane.statusTaken)
  else s.withResult .pending

/-! ## CLEAR (R10, R11) -/

/-- CLEAR's own rule: accepted in every lane state, without further effect on a CLEARING lane (R10, R11). -/
def ruleClear (l : LaneId) (s : State) : State :=
  if (s.lane l).state = .clearing then s.withResult .accepted else clearLane l (s.withResult .accepted)

/-! ## HOLD, GO, STEP (R178, R183, R184) -/

/-- HOLD may be accepted for this lane (R178; log 9 for a lane whose STOP is taken). -/
def holdAllowed (x : Lane) : Bool :=
  x.options.holdPermit && decide (x.state = .running ∨ x.state = .suspended) && !x.holdPending && !x.haltPending
    && !stopTaken x

/-- HOLD's own rule (R178). -/
def ruleHold (l : LaneId) (s : State) : State :=
  if holdAllowed (s.lane l) then (s.withResult .accepted).setLane l fun x => { x with holdPending := true }
  else refuseBusy s

/-- GO before the hold is reached: a lane waiting at a boundary fetches (R183). One that waits at a tagged hold point holds there
still, for its tag (DESIGN CHOICE, log 46). -/
def Lane.holdCancelled (x : Lane) : Lane :=
  { x.grantPast with holdPending := false, stage := if x.stage = .boundary then .fetch else x.grantPast.stage }

/-- Leave a tagged hold: RUNNING with hold pass, on to the SUSPEND flag of the fetched copy (R25, R183, R184). -/
def leaveTagged (l : LaneId) (s : State) : State :=
  let t := s.setLane l fun x => { x with state := .running, holdPosition := none, holdPass := true }
  match (s.lane l).stage with
  | .tagged w => examineSuspend l w t
  | _ => t

/-- GO of a HELD lane, by its hold position (R183). -/
def goOn (l : LaneId) (s : State) : State :=
  match (s.lane l).holdPosition with
  | some .boundary => s.setLane l fun x => { x with state := .running, holdPosition := none, stage := .fetch }
  | some .tagged => leaveTagged l s
  | some .suspended =>
    if (s.lane l).resumePending then
      s.setLane l fun x => { x with state := .running, holdPosition := none, resumePending := false, stage := .fetch }
    else s.setLane l fun x => { x with state := .suspended, holdPosition := none }
  | none => s

/-- The evaluation of the trigger that GO makes for its lane (R61, R183). -/
def evalTriggerFor (l : LaneId) (s : State) : State :=
  if s.trigger.armed = some l then evalTrigger s else s

/-- GO's own rule (R183; log 9 for a lane whose STOP is taken). A SUSPENDED raise of the step that GO lets the lane look at comes
before the trigger's evaluation (DESIGN CHOICE, log 51). -/
def ruleGo (l : LaneId) (s : State) : State :=
  if (s.lane l).state = .held then evalTriggerFor l (goOn l (s.withResult .accepted))
  else if (s.lane l).holdPending ∧ ¬ stopTaken (s.lane l) then (s.withResult .accepted).setLane l Lane.holdCancelled
  else refuseBusy s

/-- STEP has taken lane `l` out of a tagged hold. Where the step suspends the lane at once, the render grant of its leaving HELD
comes before it holds again: its survey request is eligible until then (R161, R184; log 20). -/
def grantBeforeHold (l : LaneId) (s : State) : State :=
  let t := s.setLane l fun x => { x with stage := .leftHold }
  if (s.lane l).state = .suspended ∧ (nextGrant t).isSome then t else s

/-- STEP of a HELD lane, by its hold position (R184). -/
def stepOn (l : LaneId) (s : State) : State :=
  match (s.lane l).holdPosition with
  | some .boundary => s.setLane l fun x => { x with state := .running, holdPosition := none, stage := .fetch }
  | some .tagged => grantBeforeHold l (leaveTagged l s)
  | some .suspended => s.setLane l fun x => { x with state := .running, holdPosition := none, stage := .fetch }
  | none => s

/-- STEP's own rule (R184). -/
def ruleStep (l : LaneId) (s : State) : State :=
  if (s.lane l).state = .held then
    stepOn l ((s.withResult .accepted).setLane l fun x => { x with holdPending := true, holdPass := true })
  else refuseBusy s

/-! ## SNAP, DUMP (R185, R187) -/

/-- SNAP's own rule (R185). -/
def ruleSnap (l : LaneId) (s : State) : State :=
  if s.port.inspection.isSome then refuseBusy s else takeSnapshot l (s.withResult .accepted)

/-- DUMP's own rule (R187). -/
def ruleDump (l : LaneId) (s : State) : State :=
  if (s.lane l).state ≠ .held ∨ s.port.inspection.isSome then refuseBusy s else takeDump l (s.withResult .accepted)

/-! ## Registers (R1, R2, R4, R17, R18) -/

/-- An ANCHOR write may be accepted (R4). -/
def anchorAllowed (s : State) : Bool :=
  decide (s.port.config ≠ .loading) && allLanes.all (fun l => decide ((s.lane l).state = .idle)) && s.headFree

/-- An ANCHOR write (R4). -/
def writeAnchor (v : Word) (s : State) : State :=
  if anchorAllowed s then
    { s with port := { s.port with anchor := v &&& 0xFFFFFF00#32, result := .accepted, config := .loading } }
  else refuseBusy s

/-- An ATTENTION write (R17). -/
def writeAttention (v : Word) (s : State) : State := { s with port.mask := v.setWidth 4 }

/-- An ATTENTION read: its answer, then the record-fault flag cleared (R1, R18). -/
def readAttention (enables : BitVec 4) (s : State) : State :=
  { s with port := { s.port with answer := addressedBytes enables (attentionWord s), recordFault := false } }

/-- An ORDER write that is no order of any lane: result INVALID (R2). -/
def orderInvalid (s : State) : State := s.withResult .invalid

/-! ## The port takes one access at a time (R13) -/

/-- An access as it runs on the port. Only accesses of the slave port are held. -/
def runAccess (c : Instr) (s : State) : State :=
  match c with
  | .anchor v => writeAnchor v s
  | .attentionWrite v => writeAttention v s
  | .attentionRead enables => readAttention enables s
  | .start l => screened false (ruleStart l) s
  | .resume l => screened false (ruleResume l) s
  | .halt l => screened false (ruleHalt l) s
  | .clear l => screened false (ruleClear l) s
  | .take l => screened true (ruleTake l) s
  | .hold l => screened false (ruleHold l) s
  | .stepOrder l => screened false (ruleStep l) s
  | .go l => screened false (ruleGo l) s
  | .snap l => screened true (ruleSnap l) s
  | .dump l => screened false (ruleDump l) s
  | .invalidOrder _ _ => orderInvalid s
  | _ => s

/-- An access is answered, or held while a status record write is in flight (R13). -/
def portAccess (c : Instr) (s : State) : State :=
  if s.statusWrites.isEmpty then runAccess c s else { s with port.held := s.port.held ++ [c] }

/-- Run held accesses in order, as long as no status record write is in flight. -/
def runHeld : List Instr → State → State
  | [], s => s
  | c :: cs, s =>
    if s.statusWrites.isEmpty then runHeld cs (runAccess c s) else { s with port.held := c :: cs }

/-- Ready is given again when no status record write is left in flight (R13). -/
def releasePort (s : State) : State := runHeld s.port.held { s with port.held := [] }

/-! ## Meanings -/

/-- REGISTER_WRITE_IGNORED (R1). A write that the window takes has the effect it takes (R1, R2; log 7). -/
def execRegisterWriteIgnored (offset : BitVec 5) (enables : BitVec 4) (value : Word) (s : State) : Result :=
  .next (portAccess (decodeWrite offset enables value) s)

/-- ANCHOR (R4). -/
def execAnchor (value : Word) (s : State) : Result := .next (portAccess (.anchor value) s)

/-- ATTENTION_WRITE (R17). -/
def execAttentionWrite (value : Word) (s : State) : Result := .next (portAccess (.attentionWrite value) s)

/-- ATTENTION_READ (R1, R18). -/
def execAttentionRead (enables : BitVec 4) (s : State) : Result := .next (portAccess (.attentionRead enables) s)

/-- INVALID_ORDER (R2). Fields that name an order give that order (log 7). -/
def execInvalidOrder (laneField : BitVec 3) (code : BitVec 8) (s : State) : Result :=
  .next (portAccess (decodeOrderFields laneField code) s)

/-- START (R7). -/
def execStart (l : LaneId) (s : State) : Result := .next (portAccess (.start l) s)

/-- RESUME (R8). -/
def execResume (l : LaneId) (s : State) : Result := .next (portAccess (.resume l) s)

/-- HALT (R9). -/
def execHalt (l : LaneId) (s : State) : Result := .next (portAccess (.halt l) s)

/-- CLEAR (R10). -/
def execClear (l : LaneId) (s : State) : Result := .next (portAccess (.clear l) s)

/-- TAKE (R12). -/
def execTake (l : LaneId) (s : State) : Result := .next (portAccess (.take l) s)

/-- HOLD (R178). -/
def execHold (l : LaneId) (s : State) : Result := .next (portAccess (.hold l) s)

/-- STEP (R184). -/
def execStepOrder (l : LaneId) (s : State) : Result := .next (portAccess (.stepOrder l) s)

/-- GO (R183). -/
def execGo (l : LaneId) (s : State) : Result := .next (portAccess (.go l) s)

/-- SNAP (R185). -/
def execSnap (l : LaneId) (s : State) : Result := .next (portAccess (.snap l) s)

/-- DUMP (R187). -/
def execDump (l : LaneId) (s : State) : Result := .next (portAccess (.dump l) s)

/-- The oldest status record write in flight for lane `l`, by its place in the list. Of two record writes of one lane the older ends
first, and between lanes any order is allowed (DESIGN CHOICE, log 48). -/
def statusWriteOf (s : State) (l : LaneId) : Option Nat :=
  firstIndex (fun q => decide (q.lane = l)) s.statusWrites

/-- The memory and the record-fault flag after a status record write's end (R13, R15). -/
def statusWriteEffect (q : StatusWrite) (write : WriteEnd) (s : State) : State :=
  match write with
  | .landed => s.store q.addr q.bytes
  | .faulted left => { s.withStores left with port.recordFault := true }

/-- STATUS_RECORD_WRITE_END (R13, R15). -/
def execStatusRecordWriteEnd (l : LaneId) (write : WriteEnd) (s : State) : Result :=
  match statusWriteOf s l with
  | none => .refused .eventNotDue
  | some i => match s.statusWrites[i]? with
    | none => .refused .eventNotDue
    | some q =>
      .next (releasePort (statusWriteEffect q write { s with statusWrites := removeAt i s.statusWrites }))

end Sys2Proof.Machine
end

