-- ==== Sys2Proof/Machine/Patch.lean ====
section
/-! DEFINITION. The patch steps (chapter 10): EXPOSE, KEEP, RELEASE and RENDER. -/

namespace Sys2Proof.Machine

/-! ## EXPOSE (R164 to R166) -/

/-- EXPOSE's tests in order (R164). -/
def exposeCheck (s : State) (l : LaneId) (w : StepWord) : Option CheckCode :=
  if w.operand 17 1 = 0 then some .operand
  else if w.operand 18 2 < 20 ∨ 10000 < w.operand 18 2 then some .operand
  else if (boundSlot s l w.tag).isSome then some .tagInUse
  else if keepLimitReached s then some .keepLimit
  else none

/-- An EXPOSE that passed its tests: refused by a CUTOFF supply, abandoned by a HALT already taken (log 10), else it joins the
head waiters, which is a grant point (R62 to R64, R164). -/
def joinWaiters (l : LaneId) (w : StepWord) (s : State) : State :=
  if s.supply.state = .cutoff then endStep l w .exception (exposeResults 0 0 0 0 1) .advance s
  else if (s.lane l).haltPending then abandonForHalt l w s
  else headArbitrate (s.setLane l fun x => { x with stage := .exposeWait w })

/-- EXPOSE as taken (R164). -/
def takeExpose (l : LaneId) (w : StepWord) (s : State) : State :=
  match exposeCheck s l w with
  | some c => checkStep l w c s
  | none => joinWaiters l w s

/-! ## KEEP (R167) -/

/-- A slot that KEEP may bind: a survey frame RENDERING or DONE (R167). -/
def Slot.keepable (x : Slot) : Bool :=
  x.holds .survey && decide (x.state = .rendering ∨ x.state = .done)

/-- The candidate KEEP binds: the highest sequence number (R167). -/
def keepCandidate (s : State) : Option Nat :=
  match positions Slot.keepable 0 s.slots with
  | [] => none
  | i :: is => some (is.foldl (higherSeq s) i)

/-- KEEP's result bytes (R167). -/
def keepResults (e : ExposureRecord) (i : Nat) (rendering : Bool) : List Byte :=
  le 4 e.seq.toNat ++ leInt 4 e.pos ++ le 1 i ++ le 1 e.lane.val ++ le 1 (if rendering then 1 else 0) ++ zeros 1

/-- KEEP binds slot `i` to (lane, tag) and ends DONE (R81, R167). -/
def bindSlot (l : LaneId) (w : StepWord) (i : Nat) (s : State) : State :=
  match (s.slot i).record with
  | none => s
  | some e =>
    endStep l w .done (keepResults e i (decide ((s.slot i).state = .rendering))) .advance
      (s.setSlot i fun x => { x with state := .kept, binding := some (l, w.tag) })

/-- KEEP as taken (R167). -/
def takeKeep (l : LaneId) (w : StepWord) (s : State) : State :=
  match keepCandidate s with
  | none => checkStep l w .nothingToKeep s
  | some i =>
    if (boundSlot s l w.tag).isSome then checkStep l w .tagInUse s
    else if keepLimitReached s then checkStep l w .keepLimit s
    else bindSlot l w i s

/-! ## RELEASE (R168) -/

/-- RELEASE's result bytes (R168). -/
def releaseResults (x : Slot) : List Byte :=
  le 4 x.seqNat ++ le 1 (if x.inUse then 1 else 0) ++ zeros 7

/-- RELEASE unbinds slot `i` and ends DONE; a slot FREE at once is a grant point (R62, R81, R168). -/
def releaseSlot (l : LaneId) (w : StepWord) (i : Nat) (s : State) : State :=
  let x := s.slot i
  let t := endStep l w .done (releaseResults x) .advance (s.setSlot i Slot.unkeep)
  if x.inUse then t else headArbitrate t

/-- RELEASE as taken (R168). -/
def takeRelease (l : LaneId) (w : StepWord) (s : State) : State :=
  match boundSlot s l w.tag with
  | none => checkStep l w .tagUnknown s
  | some i => releaseSlot l w i s

/-! ## RENDER (R169) -/

/-- RENDER's tests in order (R169). -/
def renderCheck (s : State) (l : LaneId) (o : PatchOps) : Option CheckCode :=
  if o.cols = 0 ∨ 2048 < o.cols then some .operand
  else if o.rows = 0 ∨ 2048 < o.rows then some .operand
  else if o.pitch < 100 ∨ 10000 < o.pitch then some .operand
  else if o.zStart = 0 ∨ 4000000 < o.zStart then some .operand
  else if o.dest.toNat % 16 ≠ 0 then some .operand
  else if 16 * o.stride < o.cols then some .operand
  else if (boundSlot s l o.tag).isNone then some .tagUnknown
  else if ¬ (s.lane l).context.complete then some .context
  else if (s.lane l).context.geometry.width ≤ o.k0 then some .operand
  else none

/-- RENDER as taken: a patch request joins the list and the lane waits (R160, R169). -/
def takeRender (l : LaneId) (w : StepWord) (s : State) : State :=
  match renderCheck s l w.patchOps with
  | some c => checkStep l w c s
  | none =>
    let t := s.setLane l fun x => { x with stage := .renderWait w }
    { t with requests := t.requests ++ [.patch l w.patchOps] }

/-! ## Meanings -/

/-- EXPOSE (R164). -/
def execExpose (l : LaneId) (s : State) : Result :=
  taking l 0x10 s fun w => takeExpose l w

/-- KEEP (R167). -/
def execKeep (l : LaneId) (s : State) : Result :=
  taking l 0x11 s fun w => takeKeep l w

/-- RELEASE (R168). -/
def execRelease (l : LaneId) (s : State) : Result :=
  taking l 0x13 s fun w => takeRelease l w

/-- RENDER (R169). -/
def execRender (l : LaneId) (s : State) : Result :=
  taking l 0x12 s fun w => takeRender l w

end Sys2Proof.Machine
end

