-- ==== Sys2Proof/Machine/RenderContext.lean ====
section
/-! DEFINITION. Render contexts (chapter 6): the table steps, the end of a table read, and POSE. -/

namespace Sys2Proof.Machine

/-- Replace lane `l`'s context. -/
def setContext (l : LaneId) (f : Context → Context) (s : State) : State :=
  s.setLane l fun x => { x with context := f x.context }

/-- The tests of a table step, and the start of its read of `len` bytes (R87). `needsGeometry` is SHADE's CONTEXT test. -/
def startTableRead (l : LaneId) (needsGeometry : Bool) (len : Nat) (w : StepWord) (s : State) : State :=
  if w.operand 16 4 % 4 ≠ 0 then checkStep l w .operand s
  else if s.surveyOpen l then checkStep l w .locked s
  else if needsGeometry ∧ ¬ (s.lane l).context.geometryValid then checkStep l w .context s
  else s.setLane l fun x => { x with stage := .tableRead w len }

/-- A geometry that passes replaces the geometry and the pose; the shade flag is cleared when W changes (R91). -/
def Context.loadGeometry (c : Context) (g : Geometry) : Context :=
  { c with
    geometry := g, geometryValid := true, pose := ⟨g.ex, g.ey, g.roll⟩
    shadeValid := c.shadeValid && decide (g.width = c.geometry.width) }

/-- What a table load gives: the new context with byte 5 and bytes 6 to 7 of the done word, or the check that refuses it. -/
inductive TableLoad where
  | loaded (c : Context) (shadeCleared : Bool) (count : Nat)
  | refused (code : CheckCode)
deriving DecidableEq, Repr

/-- The contents of a table read, checked and put into the context (R89 to R96). `ws`, `hs` are the settings' source size. -/
def loadTable (code : Byte) (bs : List Byte) (ws hs : Nat) (c : Context) : TableLoad :=
  if code = 0x01 then
    let g := Geometry.ofBytes bs
    match g.checkCode ws hs with
    | some e => .refused e
    | none => .loaded (c.loadGeometry g) (c.shadeValid && !(c.loadGeometry g).shadeValid) g.windowDepth.toNat
  else if code = 0x02 then .loaded { c with lens := lensEntries bs, lensValid := true } false 0
  else if code = 0x03 then .loaded { c with shade := halfWords bs, shadeValid := true } false 0
  else if code = 0x04 then .loaded { c with tone := bs, toneValid := true } false 0
  else .loaded { c with glare := bs, glareValid := true } false (glareCount bs)

/-- The done word's bytes 4 to 15 after a table load (R89). -/
def tableResults (c : Context) (shadeCleared : Bool) (count : Nat) : List Byte :=
  [c.flagByte] ++ le 1 (if shadeCleared then 1 else 0) ++ le 2 count ++ zeros 8

/-- The end of a table read with its data in memory (R89). -/
def finishTableLoad (l : LaneId) (w : StepWord) (len : Nat) (s : State) : State :=
  let bs := s.mem.read (BitVec.ofNat 32 (w.operand 16 4)) len
  match loadTable w.code bs s.intake.ws s.intake.hs (s.lane l).context with
  | .refused e => checkStep l w e s
  | .loaded c cleared count =>
    endStep l w .done (tableResults c cleared count) .advance (setContext l (fun _ => c) s)

/-- POSE's tests in order (R97). -/
def poseAllowed (c : Context) (ex ey : Int) (roll : Nat) : Bool :=
  c.geometryValid && decide (offsetWithin ex c.geometry.radius) && decide (offsetWithin ey c.geometry.radius)
    && decide (roll ≤ 4095)

/-- POSE: the whole pose is replaced at once, or the step is refused OPERAND (R97). -/
def setPose (l : LaneId) (w : StepWord) (s : State) : State :=
  let ex := signed32 (w.operand 16 4)
  let ey := signed32 (w.operand 20 4)
  let roll := w.operand 24 2
  let c := (s.lane l).context
  if poseAllowed c ex ey roll then
    endStep l w .done ([c.flagByte] ++ zeros 11) .advance (setContext l (fun c => { c with pose := ⟨ex, ey, roll⟩ }) s)
  else checkStep l w .operand s

/-! ## Meanings -/

/-- GEOMETRY: a 64-byte table read (R87). -/
def execGeometry (l : LaneId) (s : State) : Result :=
  taking l 0x01 s fun w => startTableRead l false 64 w

/-- LENS: a 1,028-byte table read (R87). -/
def execLens (l : LaneId) (s : State) : Result :=
  taking l 0x02 s fun w => startTableRead l false 1028 w

/-- SHADE: a read of 2 W bytes, which needs a valid geometry (R87). -/
def execShade (l : LaneId) (s : State) : Result :=
  taking l 0x03 s fun w t => startTableRead l true (2 * (t.lane l).context.geometry.width) w t

/-- TONE: a 4,096-byte table read (R87). -/
def execTone (l : LaneId) (s : State) : Result :=
  taking l 0x04 s fun w => startTableRead l false 4096 w

/-- GLARE: a 512-byte table read (R87). -/
def execGlare (l : LaneId) (s : State) : Result :=
  taking l 0x05 s fun w => startTableRead l false 512 w

/-- TABLE_READ_END (R89): of a waiting table step, or of a read that CLEAR discards (R36). -/
def execTableReadEnd (l : LaneId) (read : ReadEnd) (s : State) : Result :=
  match (s.lane l).stage, (s.lane l).discarding with
  | .tableRead w len, _ => match read with
    | .faulted => .next (checkStep l w .memory s)
    | .arrived stores => .next (finishTableLoad l w len (s.withStores stores))
  | _, some .table =>
    let t := s.setLane l fun x => { x with discarding := none }
    match read with
    | .faulted => .next t
    | .arrived stores => .next (t.withStores stores)
  | _, _ => .refused .eventNotDue

/-- POSE (R97). -/
def execPose (l : LaneId) (s : State) : Result :=
  taking l 0x06 s fun w => setPose l w

end Sys2Proof.Machine
end

