-- ==== Sys2Proof/Machine/Resets.lean ====
section
/-! DEFINITION. The settings load (R5, R6, R51), power-on and the board reset (R19). -/

namespace Sys2Proof.Machine

/-! ## Settings load -/

/-- The port at the end of a load (R5). -/
def State.withLoadResult (s : State) (c : ConfigState) (code : Nat) : State :=
  { s with port := { s.port with config := c, settingsError := code } }

/-- A lane whose context a settings load has made invalid (R6, R86). -/
def Lane.contextDropped (x : Lane) : Lane := { x with context := x.context.invalid }

/-- Frame intake with the settings of a load (R6, R84). -/
def Intake.withSettings (n : Intake) (c : Settings) : Intake :=
  { n with
    slotCount := c.slotCount, slotArea := BitVec.ofNat 32 c.slotArea, ws := c.ws, hs := c.hs, timeoutMs := c.timeoutMs
    repairLimit := c.repairLimit }

/-- The effects of a load that ends CONFIGURED on everything but the odometer (R6). -/
def takeSettings (c : Settings) (s : State) : State :=
  { s with
    slots := List.replicate c.slotCount .empty
    lanes := s.lanes.map Lane.contextDropped
    supply := { s.supply with derateCode := c.derateCode, cutoffCode := c.cutoffCode }
    exposure := { s.exposure with ledCap := c.ledCap, timeCeiling := c.timeCeiling }
    intake := s.intake.withSettings c }

/-- A load that ends CONFIGURED (R5, R6, R51). -/
def applySettings (c : Settings) (timers : List (Edge × Nat)) (s : State) : State :=
  offerPosition (loadOdometer c timers s.odo) (takeSettings c (s.withLoadResult .configured 0))

/-- The settings block in memory is checked and taken, or refused with the first bad field's code (R5). -/
def checkSettings (timers : List (Edge × Nat)) (s : State) : State :=
  let c := Settings.ofBytes (s.mem.read s.port.anchor 64)
  if c.error = 0 then applySettings c timers s else s.withLoadResult .unconfigured c.error

/-! ## Meanings -/

/-- SETTINGS_LOAD_END (R5). -/
def execSettingsLoadEnd (read : ReadEnd) (timers : List (Edge × Nat)) (s : State) : Result :=
  if s.port.config = .loading then
    match read with
    | .faulted => .next (s.withLoadResult .unconfigured 1)
    | .arrived stores => .next (checkSettings timers (s.withStores stores))
  else .refused .eventNotDue

/-- POWER_ON (R49 and the reset rule of each block). Board memory and the commands that wait are outside the part. -/
def execPowerOn (pins : PinLevels) (s : State) : Result :=
  .next { State.reset with odo := .reset pins, mem := s.mem, pending := s.pending }

/-- The part after a board reset: as after power-on, but for the odometer, whose saturated flag alone reads clear (R50), and
the trigger's pitch and levels (R58). Accesses for which ready was withheld are dropped unanswered (DESIGN CHOICE, log 40).
The reset is one instant, and what RESET_N's low time brings comes after it (DESIGN CHOICE, log 50). -/
def boardResetState (s : State) : State :=
  { State.reset with
    odo := { s.odo with saturated := false }
    trigger := { Trigger.reset with pitch := s.trigger.pitch, lReq := s.trigger.lReq, tReq := s.trigger.tReq }
    mem := s.mem
    pending := s.pending }

/-- BOARD_RESET (R19, R50). -/
def execBoardReset (left : Stores) (s : State) : Result := .next (boardResetState (s.withStores left))

end Sys2Proof.Machine
end

