-- ==== Sys2Proof/Machine/Dispatch.lean ====
section
/-! DEFINITION. The dispatch: one arm for each command. -/

namespace Sys2Proof.Machine

/-- The command's effect on everything but the queue. -/
def exec (i : Instr) (s : State) : Host.Outcome State Fault Refusal :=
  match i with
  | .powerOn pins => Sys2Proof.Machine.execPowerOn pins s
  | .boardReset left => Sys2Proof.Machine.execBoardReset left s
  | .registerWriteIgnored offset enables value => Sys2Proof.Machine.execRegisterWriteIgnored offset enables value s
  | .anchor value => Sys2Proof.Machine.execAnchor value s
  | .settingsLoadEnd read timers => Sys2Proof.Machine.execSettingsLoadEnd read timers s
  | .attentionWrite value => Sys2Proof.Machine.execAttentionWrite value s
  | .attentionRead enables => Sys2Proof.Machine.execAttentionRead enables s
  | .start lane => Sys2Proof.Machine.execStart lane s
  | .resume lane => Sys2Proof.Machine.execResume lane s
  | .halt lane => Sys2Proof.Machine.execHalt lane s
  | .clear lane => Sys2Proof.Machine.execClear lane s
  | .take lane => Sys2Proof.Machine.execTake lane s
  | .hold lane => Sys2Proof.Machine.execHold lane s
  | .stepOrder lane => Sys2Proof.Machine.execStepOrder lane s
  | .go lane => Sys2Proof.Machine.execGo lane s
  | .snap lane => Sys2Proof.Machine.execSnap lane s
  | .dump lane => Sys2Proof.Machine.execDump lane s
  | .snapWriteEnd count write => Sys2Proof.Machine.execSnapWriteEnd count write s
  | .dumpWriteEnd count write => Sys2Proof.Machine.execDumpWriteEnd count write s
  | .statusRecordWriteEnd lane write => Sys2Proof.Machine.execStatusRecordWriteEnd lane write s
  | .laneBlockReadEnd lane read => Sys2Proof.Machine.execLaneBlockReadEnd lane read s
  | .stepFetch lane read => Sys2Proof.Machine.execStepFetch lane read s
  | .geometry lane => Sys2Proof.Machine.execGeometry lane s
  | .lens lane => Sys2Proof.Machine.execLens lane s
  | .shade lane => Sys2Proof.Machine.execShade lane s
  | .tone lane => Sys2Proof.Machine.execTone lane s
  | .glare lane => Sys2Proof.Machine.execGlare lane s
  | .tableReadEnd lane read => Sys2Proof.Machine.execTableReadEnd lane read s
  | .pose lane => Sys2Proof.Machine.execPose lane s
  | .beginSurvey lane => Sys2Proof.Machine.execBeginSurvey lane s
  | .sink lane => Sys2Proof.Machine.execSink lane s
  | .mark lane => Sys2Proof.Machine.execMark lane s
  | .endSurvey lane => Sys2Proof.Machine.execEndSurvey lane s
  | .expose lane => Sys2Proof.Machine.execExpose lane s
  | .keep lane => Sys2Proof.Machine.execKeep lane s
  | .release lane => Sys2Proof.Machine.execRelease lane s
  | .render lane => Sys2Proof.Machine.execRender lane s
  | .jump lane => Sys2Proof.Machine.execJump lane s
  | .stop lane => Sys2Proof.Machine.execStop lane s
  | .doneWordWriteEnd lane nth write => Sys2Proof.Machine.execDoneWordWriteEnd lane nth write s
  | .clearingEnd lane => Sys2Proof.Machine.execClearingEnd lane s
  | .holdReached lane => Sys2Proof.Machine.execHoldReached lane s
  | .inputPinChange input level => Sys2Proof.Machine.execInputPinChange input level s
  | .acceptedEdge edge => Sys2Proof.Machine.execAcceptedEdge edge s
  | .strobeEnd millivolts => Sys2Proof.Machine.execStrobeEnd millivolts s
  | .supplyTick millivolts => Sys2Proof.Machine.execSupplyTick millivolts s
  | .headFrameStart => Sys2Proof.Machine.execHeadFrameStart s
  | .headLine bytes => Sys2Proof.Machine.execHeadLine bytes s
  | .headFrameEnd outstanding => Sys2Proof.Machine.execHeadFrameEnd outstanding s
  | .unknownByte byte => Sys2Proof.Machine.execUnknownByte byte s
  | .readoutTimeout => Sys2Proof.Machine.execReadoutTimeout s
  | .slotWriteFault left => Sys2Proof.Machine.execSlotWriteFault left s
  | .frameComplete => Sys2Proof.Machine.execFrameComplete s
  | .renderGrant stores => Sys2Proof.Machine.execRenderGrant stores s
  | .columnTableEnd => Sys2Proof.Machine.execColumnTableEnd s
  | .rowFinished reads => Sys2Proof.Machine.execRowFinished reads s
  | .sourceFault => Sys2Proof.Machine.execSourceFault s
  | .rowCommitEnd lane stores => Sys2Proof.Machine.execRowCommitEnd lane stores s
  | .drainBegin stores => Sys2Proof.Machine.execDrainBegin stores s
  | .mapFault lane access left => Sys2Proof.Machine.execMapFault lane access left s
  | .patchRowWriteEnd write => Sys2Proof.Machine.execPatchRowWriteEnd write s
  | .invalidOrder laneField code => Sys2Proof.Machine.execInvalidOrder laneField code s
  | .slotLineWritesEnded => Sys2Proof.Machine.execSlotLineWritesEnded s

end Sys2Proof.Machine
end

