-- ==== Sys2Proof/WellFormed.lean ====
section
/-! DEFINITION. Well-formed commands: operands that some occurrence of the row has. Each check has a name and can be shown to
refuse (Tests/Slice0.lean). -/

namespace Sys2Proof

open Sys2Proof.Machine (ignoredWrite invalidOrderFields typeByte)

/-- Why a command is ill formed. -/
inductive FormError where
  /-- REGISTER_WRITE_IGNORED with a write that R1 does not have ignored. -/
  | writeTaken
  /-- INVALID_ORDER with a lane field and code that R2 finds valid. -/
  | orderValid
  /-- UNKNOWN_BYTE with a type byte (R68). -/
  | byteKnown
  /-- An inspection write of no byte, or of more than the record has (R185, R187). -/
  | writeCount
  /-- A store at an address past the 32-bit space. -/
  | storeAddress
  /-- A filter timer named twice at a settings load (R38). -/
  | timerTwice
deriving DecidableEq, Repr

/-- All stores lie in the 32-bit space. -/
def storesFit (st : Stores) : Bool := st.all fun c => decide (c.1 < 2 ^ 32)

/-- The stores that the end of a read carries. -/
def ReadEnd.stores : ReadEnd → Stores
  | .arrived st => st
  | .faulted => []

/-- The stores that the end of a write carries. -/
def WriteEnd.stores : WriteEnd → Stores
  | .landed => []
  | .faulted left => left

/-- Stores must fit. -/
def checkStores (st : Stores) : Option FormError := if storesFit st then none else some .storeAddress

/-- The count of an inspection write, and its stores. -/
def checkInspectionWrite (limit count : Nat) (w : WriteEnd) : Option FormError :=
  if count = 0 ∨ limit < count then some .writeCount else checkStores w.stores

/-- The first check that a command fails. -/
def Instr.formError : Instr → Option FormError
  | .powerOn _ => none
  | .boardReset left => checkStores left
  | .registerWriteIgnored offset enables _ => if ignoredWrite offset enables then none else some .writeTaken
  | .anchor _ => none
  | .settingsLoadEnd read timers =>
    if ¬ (timers.map (·.1)).Nodup then some .timerTwice else checkStores read.stores
  | .attentionWrite _ => none
  | .attentionRead _ => none
  | .start _ => none
  | .resume _ => none
  | .halt _ => none
  | .clear _ => none
  | .take _ => none
  | .hold _ => none
  | .stepOrder _ => none
  | .go _ => none
  | .snap _ => none
  | .dump _ => none
  | .snapWriteEnd count write => checkInspectionWrite 60 count write
  | .dumpWriteEnd count write => checkInspectionWrite 16640 count write
  | .statusRecordWriteEnd _ write => checkStores write.stores
  | .laneBlockReadEnd _ read => checkStores read.stores
  | .stepFetch _ read => checkStores read.stores
  | .geometry _ => none
  | .lens _ => none
  | .shade _ => none
  | .tone _ => none
  | .glare _ => none
  | .tableReadEnd _ read => checkStores read.stores
  | .pose _ => none
  | .beginSurvey _ => none
  | .sink _ => none
  | .mark _ => none
  | .endSurvey _ => none
  | .expose _ => none
  | .keep _ => none
  | .release _ => none
  | .render _ => none
  | .jump _ => none
  | .stop _ => none
  | .doneWordWriteEnd _ _ write => checkStores write.stores
  | .clearingEnd _ => none
  | .holdReached _ => none
  | .inputPinChange _ _ => none
  | .acceptedEdge _ => none
  | .strobeEnd _ => none
  | .supplyTick _ => none
  | .headFrameStart => none
  | .headLine _ => none
  | .headFrameEnd _ => none
  | .unknownByte byte => if typeByte byte then some .byteKnown else none
  | .readoutTimeout => none
  | .slotWriteFault left => checkStores left
  | .frameComplete => none
  | .renderGrant stores => checkStores stores
  | .columnTableEnd => none
  | .rowFinished reads => checkStores (reads.stores ++ reads.during)
  | .sourceFault => none
  | .rowCommitEnd _ stores => checkStores stores
  | .drainBegin stores => checkStores stores
  | .mapFault _ _ left => checkStores left
  | .patchRowWriteEnd write => checkStores write.stores
  | .invalidOrder laneField code => if invalidOrderFields laneField code then none else some .orderValid
  | .slotLineWritesEnded => none

/-- The command's operands are those of some occurrence of its row. -/
abbrev WellFormed (i : Instr) : Prop := i.formError = none

end Sys2Proof
end

