-- ==== Sys2Proof/Safety.lean ====
section
/-! DEFINITION. What the claims are stated in: the situations in which a command has its own effect, the state in which a step
leaves its lane, and the laws that every state of the part obeys. -/

namespace Sys2Proof.Machine

/-! ## Situations -/

/-- The slave port answers: no status record write is in flight (R13). -/
abbrev PortFree (s : State) : Prop := s.statusWrites = []

/-- The slave port answers and the part is configured, so that an order goes to its own rule (R2). -/
abbrev OrdersRun (s : State) : Prop := PortFree s ∧ s.port.config = .configured

/-- Lane `l` is about to take the examined step `w`, whose code is `code` (R26). -/
abbrev Taking (s : State) (l : LaneId) (w : StepWord) (code : Byte) : Prop :=
  (s.lane l).stage = .take w ∧ w.code = code ∧ (s.lane l).state = .running

/-- Nothing of the frame path is at work, as at every settings load that the host can begin (R4, R84). -/
abbrev QuietForLoad (s : State) : Prop :=
  s.exposure.inFlight = none ∧ (∀ l, exposeWaiting s l = false) ∧ s.requests = []

/-- The byte at offset `i` of a block, as a number; past the block's end 0. -/
def byteOf (bs : List Byte) (i : Nat) : Nat := (bs.getD i 0).toNat

/-- The 16-bit little-endian number at offset `i` of a block. -/
def halfOf (bs : List Byte) (i : Nat) : Nat := byteOf bs i + 256 * byteOf bs (i + 1)

/-- The 32-bit little-endian number at offset `i` of a block. -/
def wordOf (bs : List Byte) (i : Nat) : Nat := halfOf bs i + 65536 * halfOf bs (i + 2)

/-- The 32-bit little-endian number at offset `i` of a block, read as signed. -/
def signedOf (bs : List Byte) (i : Nat) : Int := if wordOf bs i < 2 ^ 31 then wordOf bs i else (wordOf bs i : Int) - 2 ^ 32

/-- A byte address outside the `n` bytes from `a` on, addresses advancing modulo 2^32. -/
abbrev OutsideOf (a : Word) (n x : Nat) : Prop := x < 2 ^ 32 ∧ n ≤ (x + 2 ^ 32 - a.toNat) % 2 ^ 32

/-- A command that is an access of the host to the slave port, which the port can hold (R13). -/
inductive IsAccess : Instr → Prop where
  | ignored (offset : BitVec 5) (enables : BitVec 4) (value : Word) : IsAccess (.registerWriteIgnored offset enables value)
  | anchor (value : Word) : IsAccess (.anchor value)
  | attentionWrite (value : Word) : IsAccess (.attentionWrite value)
  | attentionRead (enables : BitVec 4) : IsAccess (.attentionRead enables)
  | invalid (laneField : BitVec 3) (code : BitVec 8) : IsAccess (.invalidOrder laneField code)
  | start (l : LaneId) : IsAccess (.start l)
  | resume (l : LaneId) : IsAccess (.resume l)
  | halt (l : LaneId) : IsAccess (.halt l)
  | clear (l : LaneId) : IsAccess (.clear l)
  | take (l : LaneId) : IsAccess (.take l)
  | hold (l : LaneId) : IsAccess (.hold l)
  | step (l : LaneId) : IsAccess (.stepOrder l)
  | go (l : LaneId) : IsAccess (.go l)
  | snap (l : LaneId) : IsAccess (.snap l)
  | dump (l : LaneId) : IsAccess (.dump l)

/-- An order that an UNCONFIGURED part refuses: every one but TAKE and SNAP (R2). -/
abbrev IsConfiguredOrder (l : LaneId) (c : Instr) : Prop :=
  c = .start l ∨ c = .resume l ∨ c = .halt l ∨ c = .clear l ∨ c = .hold l ∨ c = .stepOrder l ∨ c = .go l ∨ c = .dump l

/-- Pixels packed as the head sends them, two in every three bytes (R68). -/
def packPixels : List Nat → List Byte
  | p :: q :: rest =>
    BitVec.ofNat 8 (p % 256) :: BitVec.ofNat 8 (p / 256 + 16 * (q % 16)) :: BitVec.ofNat 8 (q / 16) :: packPixels rest
  | _ => []

/-- The line token of line `n`, after its type byte, with a CRC that passes (R68, R70). -/
def goodLine (n : Nat) (pixels : List Nat) : List Byte :=
  let body := BitVec.ofNat 8 (n / 256) :: BitVec.ofNat 8 n :: packPixels pixels
  let crc := (crc16 body).toNat
  body ++ [BitVec.ofNat 8 (crc / 256), BitVec.ofNat 8 crc]

/-! ## States after a step -/

/-- Lane `l` replaced. -/
def State.withLane (s : State) (l : LaneId) (x : Lane) : State := { s with lanes := s.lanes.set l x }

/-- Lane `l` has taken its step: hold pass and the first-fetch-after-JUMP mark are clear (R23, 11.1). -/
def State.took (s : State) (l : LaneId) : State :=
  s.withLane l { s.lane l with holdPass := false, afterJump := false }

/-- Lane `l` stands at `stage`. -/
def State.atStage (s : State) (l : LaneId) (stage : Stage) : State := s.withLane l { s.lane l with stage := stage }

/-- The step `w` of lane `l` has ended: its done word is on its way into the step, and `after` follows that word (R21, R27). -/
def State.ended (s : State) (l : LaneId) (w : StepWord) (code : DoneCode) (results : List Byte) (after : After) : State :=
  { s.atStage l (.doneWrite after) with
    doneWrites := s.doneWrites ++ [⟨l, (s.lane l).programAddr, code, results, w.noteFlag, .current⟩] }

/-- The step `w` of lane `l` is refused by check `c`: CHECKED, the check code, eleven zeros (R31). -/
def State.checked (s : State) (l : LaneId) (w : StepWord) (c : CheckCode) : State :=
  s.ended l w .checked (BitVec.ofNat 8 c.code :: zeros 11) (.check c)

/-- RESULT's result code set. -/
def State.answered (s : State) (c : ResultCode) : State := { s with port.result := c }

/-- The done word of sink `k` of lane `l`: first row and rows written, a reason, zeros (R148). -/
def Sink.doneWord (k : Sink) (l : LaneId) (code : DoneCode) (reason : Nat) (role : DoneRole) : DoneWrite :=
  ⟨l, k.stepAddr, code, leInt 4 (if k.written = 0 then 0 else k.firstRow) ++ le 4 k.written ++ le 1 reason ++ zeros 3, k.note,
    role⟩

/-- The map unbound: every slot EMPTY, F undefined, both queues empty, no ending recorded (R132). -/
def State.mapUnbound (s : State) : State :=
  { s with map := { s.map with
    lane := none, rows := List.replicate 512 none, range := none, sinks := [], markers := [], ending := .none
    phase := .surveying, commit := none, committedInDrain := 0, discardedInDrain := 0, unplacedInDrain := 0
    starvedDrain := false, faulted := false } }

/-! ## Laws -/

/-- The memory list has its canonical form. -/
abbrev MemoryLaw (s : State) : Prop := s.mem.wf

/-- The laws of the odometer (R42, R43, R45): p is a wheel count, the one enabled when only one is; with resync on the counts
stay within the slip limit; all stay within 32 bits. -/
structure OdometerLaw (o : Odometer) : Prop where
  follows : o.p = o.w1 ∨ o.p = o.w2
  first : o.mode1 ≠ .off → o.mode2 = .off → o.p = o.w1
  second : o.mode1 = .off → o.mode2 ≠ .off → o.p = o.w2
  slip : o.mode1 ≠ .off → o.mode2 ≠ .off → 0 < o.slipLimit → (o.w1 - o.w2).natAbs ≤ o.slipLimit
  fits : countFits o.w1 ∧ countFits o.w2 ∧ countFits o.p

/-- The law of the attention queues (R16): a lane stands in a queue exactly when it is status pending, in that of its present
class, and once. -/
structure AttentionLaw (s : State) : Prop where
  member : ∀ l c, l ∈ s.port.queues.get c ↔ (s.lane l).statusPending = true ∧ (s.lane l).cls = c
  once : ∀ c, (s.port.queues.get c).Nodup

/-- The laws of the slot table (R78, R82, R158): the slot that is FILLING is the one of the exposure in flight, only a KEPT
slot is bound, a survey request names a READY slot of its lane's survey, and the kept claims leave two slots free. -/
structure SlotLaw (s : State) : Prop where
  filling : ∀ i, (s.slot i).state = .filling ↔ s.exposure.inFlight = some i
  recorded : ∀ i, (s.slot i).state = .filling → (s.slot i).record.isSome = true
  bound : ∀ i, (s.slot i).binding.isSome = true → (s.slot i).state = .kept
  requested : ∀ l i, Request.survey l i ∈ s.requests → (s.slot i).state = .ready ∧ (s.slot i).surveyFrameOf l = true
  claims : keptClaims s + 2 ≤ s.intake.slotCount

/-- Lane `x` has an address from which it fetches, or from which the step it is in was fetched. -/
def Lane.addressed (x : Lane) : Prop :=
  x.state = .running ∨ x.state = .suspended ∨ x.state = .held ∨ (x.stage ≠ .rest ∧ x.stage ≠ .blockRead)

/-- The law of step addresses (R23): every address a lane fetches from is a multiple of 32, and so is the target of a JUMP
that has been taken. -/
structure AlignmentLaw (s : State) : Prop where
  address : ∀ l, (s.lane l).addressed → (s.lane l).programAddr.toNat % 32 = 0
  target : ∀ l t, (s.lane l).stage = .doneWrite (.jump t) → t.toNat % 32 = 0

/-- The law of the survey trigger (R58, R130): armed, it is armed for the lane of the open survey, with no ending recorded and
operands in range; disarmed, it has no high-water mark and nothing pending. -/
structure TriggerLaw (s : State) : Prop where
  armed : ∀ l, s.trigger.armed = some l →
    s.map.lane = some l ∧ s.map.ending = .none ∧ s.map.phase = .surveying
      ∧ 1 ≤ s.trigger.pitch ∧ s.trigger.pitch ≤ 65535 ∧ 1 ≤ s.trigger.lReq ∧ s.trigger.lReq ≤ 255
      ∧ 20 ≤ s.trigger.tReq ∧ s.trigger.tReq ≤ 10000
  disarmed : s.trigger.armed = none → s.trigger.hw = none ∧ s.trigger.pending = false

/-- The laws of the wall map's tables (R133, R145, R150): at most 8 sinks and 16 markers, 512 row slots, and an open row in the
slot of its index. -/
structure MapLaw (m : WallMap) : Prop where
  sinks : m.sinks.length ≤ Config.sinkLimit
  markers : m.markers.length ≤ Config.markerLimit
  slots : m.rows.length = Config.rowSlots
  place : ∀ i rr, m.rows.getD i none = some rr → rowSlot rr.row = i

/-- The open rows are the run F to h, of at most 512 rows (R134). -/
structure OpenRun (m : WallMap) (r : RowRange) : Prop where
  range : m.range = some r
  slots : m.rows.length = Config.rowSlots
  order : r.front ≤ r.top + 1
  depth : r.top < r.front + 512
  rows : ∀ n, (openRow m n).isSome = true ↔ r.front ≤ n ∧ n ≤ r.top

/-- The law of the supply monitor (R64, R65): the count stays below four, and is 0 in NORMAL. -/
structure SupplyLaw (m : Supply) : Prop where
  count : m.good < 4
  normal : m.state = .normal → m.good = 0

end Sys2Proof.Machine
end

