-- ==== Sys2Proof/Certificates/Slice0/Obligations.lean ====
section
/-! DEFINITION. The statements for the provers, on the commands of the LV740, its arithmetic and its laws. Each docstring names
the rules of the spec that the statement formalises; a log number stands where it rests on the model's own choice. -/

open Sys2Proof Sys2Proof.Machine

/-! ## The step and the resets -/

/-- One step runs the command at the front of the queue on the state with the queue's rest. With an empty queue the part idles,
which is the model's choice (log 5). -/
def Obligations.StepRunsFront : Prop :=
  (∀ (c : Instr) (rest : List Instr) (s : State), step { s with pending := c :: rest } = exec c { s with pending := rest })
    ∧ ∀ s : State, s.pending = [] → step s = .next s

/-- No command touches the commands that wait behind it, which are the model's own field (log 5). -/
def Obligations.CommandsLeaveQueue : Prop :=
  ∀ (c : Instr) (s t : State), exec c s = .next t → t.pending = s.pending

/-- POWER_ON completes in every state: the odometer as R49 and R39 give it, everything else as R3, R19, R37, R54, R58, R67, R84,
R86, R128, R129, R158 and R177 give it; board memory is outside the part. Registers read after it as R3, R17 and R18 say.
State.reset also holds the model's own zeros where no rule gives a value: the step address of a lane, the trigger's pitch and
levels, the receiver's expected line, repaired count and line buffer, and the answer of the last ATTENTION read (log 4). The
rectifier's empty scratch row stands for R128's zeros (log 58). -/
def Obligations.PowerOnState : Prop :=
  ∀ (pins : PinLevels) (s : State),
    ∃ t, exec (.powerOn pins) s = .next t
      ∧ t.odo = { pins := pins, accepted := pins, pair1 := (pins.a1, pins.b1), pair2 := (pins.a2, pins.b2), mode1 := .off
                  mode2 := .off, filterCode := 3, scale := 65536, slipLimit := 0, w1 := 0, w2 := 0, p := 0, phase1 := 0
                  phase2 := 0, slipCount := 0, slipFlag := false, saturated := false }
      ∧ t = { State.reset with odo := t.odo, mem := s.mem, pending := s.pending }
      ∧ readRegister t 0x00 = 0x07400103 ∧ readRegister t 0x04 = 0 ∧ readRegister t 0x0C = 0
      ∧ readRegister t 0x10 = 0x70 ∧ readRegister t 0x14 = 0 ∧ t.attnN = true
      ∧ ∀ l, (t.lane l).state = .idle ∧ (t.lane l).statusPending = false ∧ (t.lane l).cls = 0 ∧ (t.lane l).kinds = {}
          ∧ (t.lane l).reasons = {} ∧ (t.lane l).notes = 0 ∧ (t.lane l).completion = .none ∧ (t.lane l).check = .none
          ∧ (t.lane l).options = {} ∧ (t.lane l).recordSeq = 0 ∧ (t.lane l).counters = {} ∧ (t.lane l).programAddr = 0
          ∧ (t.lane l).holdRow = 0 ∧ (t.lane l).dumpAddr = 0 ∧ (t.lane l).context.complete = false

/-- BOARD_RESET completes in every state: as after power-on, but the odometer keeps all but its saturated flag (R50) and the
trigger its pitch and levels (R58). What writes on the bus left in memory comes with the command (log 2); accesses that the port
held are dropped (log 40). The zeros of a lane's step address, of the receiver's expected line, repaired count and line buffer and
of the last ATTENTION answer are the model's choice (log 4), and the rectifier's empty scratch row stands for R128's zeros (log
58). -/
def Obligations.BoardResetState : Prop :=
  ∀ (left : Stores) (s : State),
    exec (.boardReset left) s = .next { State.reset with
      odo := { s.odo with saturated := false }
      trigger := { armed := none, pitch := s.trigger.pitch, lReq := s.trigger.lReq, tReq := s.trigger.tReq, hw := none
                   pending := false }
      mem := s.mem.afterStores left
      pending := s.pending }

/-- The state after reset obeys every law that the statements below keep. -/
def Obligations.ResetMeetsLaws : Prop :=
  MemoryLaw State.reset ∧ OdometerLaw State.reset.odo ∧ AttentionLaw State.reset ∧ SlotLaw State.reset
    ∧ AlignmentLaw State.reset ∧ TriggerLaw State.reset ∧ MapLaw State.reset.map ∧ SupplyLaw State.reset.supply

/-! ## The slave port -/

/-- The port takes no access while a status record is being written (R13): the access is held, and when the last such write has
ended, landed or faulted, the held access has its effect then. That the port keeps it in a list is the model's form (log 11). -/
def Obligations.PortHoldsAccesses : Prop :=
  (∀ (c : Instr) (s : State), IsAccess c → WellFormed c → s.statusWrites ≠ [] →
      exec c s = .next { s with port.held := s.port.held ++ [c] })
    ∧ ∀ (c : Instr) (s : State) (q : StatusWrite), IsAccess c → WellFormed c → s.statusWrites = [q] → s.port.held = [c] →
        exec (.statusRecordWriteEnd q.lane .landed) s
            = exec c { s with statusWrites := [], mem := s.mem.write q.addr q.bytes, port.held := [] }
          ∧ ∀ left, exec (.statusRecordWriteEnd q.lane (.faulted left)) s = exec c { s with
              statusWrites := [], mem := s.mem.afterStores left, port.recordFault := true, port.held := [] }

/-- STATUS_RECORD_WRITE_END: the oldest record write of the lane ends. Landed, the record is in memory and no other byte has
changed; faulted, the record-fault flag is set and the lane's status, queue and sequence number are as they were (R15). The
next raise of the lane writes its whole record again. That of several writes of one lane the oldest ends first is the model's
choice (log 48). -/
def Obligations.StatusRecordWriteEnds : Prop :=
  (∀ (s : State) (before rest : List StatusWrite) (q : StatusWrite),
      s.statusWrites = before ++ q :: rest → (∀ p ∈ before, p.lane ≠ q.lane) → s.port.held = [] →
      exec (.statusRecordWriteEnd q.lane .landed) s
          = .next { s with statusWrites := before ++ rest, mem := s.mem.write q.addr q.bytes }
        ∧ (∀ x, OutsideOf q.addr q.bytes.length x → (s.mem.write q.addr q.bytes).byteAt x = s.mem.byteAt x)
        ∧ ∀ left, exec (.statusRecordWriteEnd q.lane (.faulted left)) s
            = .next { s with statusWrites := before ++ rest, mem := s.mem.afterStores left, port.recordFault := true })
    ∧ ∀ (l : LaneId) (k : Kinds) (r : Reasons) (s : State),
        ∃ q, (raiseStatus l k r s).statusWrites = s.statusWrites ++ [q] ∧ q.lane = l
          ∧ q.addr = laneBlockAddr s.port.anchor l + 32 ∧ q.bytes.length = 64

/-- Raising status (R13, R14): a lane not status pending becomes so with exactly the raised kinds and reasons and joins the tail of
its class's queue; a pending one adds them and keeps its place; NOTE counts to 255; the record is written with a sequence number
one higher, and nothing else changes. The record's bytes stand in R14's layout, with R14's codes and the check codes of R32; that
their values are those of the moment of the raise, and not of the end of the write, is the model's choice (log 12). -/
def Obligations.StatusRaised : Prop :=
  ∀ (l : LaneId) (k : Kinds) (r : Reasons) (s : State),
    let t := raiseStatus l k r s
    let x := s.lane l
    let y := t.lane l
    let n := x.counters
    let bit (i : Nat) (b : Bool) : Nat := if b then 2 ^ i else 0
    t.lane l = { x with
        statusPending := true
        kinds := if x.statusPending then x.kinds.or k else k
        reasons := if x.statusPending then x.reasons.or r else r
        notes := if r.note then min 255 (x.notes + 1) else x.notes
        recordSeq := x.recordSeq + 1 }
      ∧ (∀ m, m ≠ l → t.lane m = s.lane m)
      ∧ (∀ c, t.port.queues.get c
            = if x.statusPending = false ∧ c = x.cls then s.port.queues.get c ++ [l] else s.port.queues.get c)
      ∧ (∃ q, t.statusWrites = s.statusWrites ++ [q] ∧ q.lane = l ∧ q.addr = s.port.anchor + BitVec.ofNat 32 (288 + 256 * l.val)
          ∧ q.bytes = le 4 (x.recordSeq + 1).toNat
            ++ [BitVec.ofNat 8 x.state.code, BitVec.ofNat 8 x.completion.code,
              BitVec.ofNat 8 (bit 0 y.kinds.alert + bit 1 y.kinds.intermediate + bit 2 y.kinds.primary + bit 3 y.kinds.secondary
                + bit 4 y.kinds.pending),
              BitVec.ofNat 8 (bit 0 y.reasons.initial + bit 1 y.reasons.note + bit 2 y.reasons.suspended + bit 3 y.reasons.held
                + bit 4 y.reasons.starved)]
            ++ le 2 (bit 0 (decide (x.state = .starting ∧ x.stage = .blockRead)) + bit 1 (decide (x.state = .running))
              + bit 2 (decide (x.state = .suspended)) + bit 3 x.haltPending + bit 4 x.resumePending + bit 5 x.holdPending
              + bit 6 (decide (x.state = .held)) + bit 7 (decide (s.map.lane = some l)) + bit 8 (decide (x.state = .clearing)))
            ++ [BitVec.ofNat 8 x.check.code, BitVec.ofNat 8 y.notes] ++ le 4 x.lastStep.toNat ++ leInt 4 s.odo.p
            ++ le 4 n.rendered ++ le 4 n.starved ++ le 4 n.damaged ++ le 4 n.faulted ++ le 4 n.coalesced ++ le 4 n.withheldSupply
            ++ le 4 n.withheldHeld ++ le 4 n.committed ++ le 4 n.gaps ++ le 4 n.unplaced ++ le 4 n.discarded)
      ∧ [LaneState.idle, .starting, .running, .suspended, .held, .draining, .clearing].map LaneState.code = [0, 1, 2, 3, 4, 5, 6]
      ∧ [Completion.none, .normal, .halted, .check, .fault, .cleared, .drainStarved, .cutoff].map Completion.code
          = [0, 1, 2, 3, 4, 5, 6, 7]
      ∧ [CheckCode.none, .stepCode, .operand, .context, .locked, .surveyBusy, .surveyOpen, .noSurvey, .suspend, .hold, .jumpChain,
          .memory, .depth, .sourceSize, .keepLimit, .tagUnknown, .tagInUse, .nothingToKeep].map CheckCode.code
          = [0, 1, 2, 3, 4, 5, 6, 7, 8, 9, 10, 11, 12, 13, 14, 15, 16, 17]
      ∧ t = { s with lanes := t.lanes, port.queues := t.port.queues, statusWrites := t.statusWrites }

/-- The register window and screening (R1 to R3). RESULT shows in every state the result code, the configuration state, the
settings error code, the odometer's saturated flag, whether an exposure is in flight and the supply state, its other bits 0. A
full-width write of ORDER is the order of its lane bits 2:0 and code bits 15:8, each of the ten codes naming its order; a write
that R1 has ignored changes nothing; a lane field above 3 or an unknown code is INVALID in every configuration state; during a load
every order is BUSY; an UNCONFIGURED part refuses every order but TAKE and SNAP. The refused order changes nothing but the result
code. That a write which the window takes has its own effect under REGISTER_WRITE_IGNORED and INVALID_ORDER too is the model's
choice (log 7), and so is that an ATTENTION read of no byte returns 0 (log 33) and clears the record-fault flag (log 7). -/
def Obligations.PortScreening : Prop :=
  (∀ (w : Word) (l : LaneId), w.extractLsb' 0 3 = BitVec.ofNat 3 l.val →
      let named (k : Nat) (c : Instr) := w.extractLsb' 8 8 = BitVec.ofNat 8 k → decodeOrder w = c
      named 1 (.start l) ∧ named 2 (.resume l) ∧ named 3 (.halt l) ∧ named 4 (.clear l) ∧ named 5 (.take l) ∧ named 6 (.hold l)
        ∧ named 7 (.stepOrder l) ∧ named 8 (.go l) ∧ named 9 (.snap l) ∧ named 10 (.dump l))
    ∧ (∀ w : Word, invalidOrderFields (w.extractLsb' 0 3) (w.extractLsb' 8 8) →
      decodeOrder w = .invalidOrder (w.extractLsb' 0 3) (w.extractLsb' 8 8))
    ∧ (∀ (offset : BitVec 5) (enables : BitVec 4) (value : Word) (s : State),
      (ignoredWrite offset enables → decodeWrite offset enables value = .registerWriteIgnored offset enables value)
        ∧ (enables = 0xF → offset.toNat / 4 = 1 → decodeWrite offset enables value = .anchor value)
        ∧ (enables = 0xF → offset.toNat / 4 = 2 → decodeWrite offset enables value = decodeOrder value)
        ∧ (enables = 0xF → offset.toNat / 4 = 4 → decodeWrite offset enables value = .attentionWrite value)
        ∧ exec (.registerWriteIgnored offset enables value) s = exec (decodeWrite offset enables value) s)
    ∧ (∀ (f : BitVec 3) (k : BitVec 8) (s : State), exec (.invalidOrder f k) s = exec (decodeOrderFields f k) s)
    ∧ (∀ s : State,
      let w := readRegister s 0x0C
      w.extractLsb' 0 4 = BitVec.ofNat 4 s.port.result.code ∧ w.extractLsb' 4 4 = BitVec.ofNat 4 s.port.config.code
        ∧ w.extractLsb' 8 8 = BitVec.ofNat 8 s.port.settingsError ∧ w.getLsbD 16 = s.odo.saturated
        ∧ w.getLsbD 17 = s.exposure.inFlight.isSome ∧ w.extractLsb' 18 2 = BitVec.ofNat 2 s.supply.state.code
        ∧ w.extractLsb' 20 12 = 0)
    ∧ [ResultCode.accepted, .pending, .busy, .unconfigured, .invalid].map ResultCode.code = [0, 1, 2, 3, 4]
    ∧ [ConfigState.unconfigured, .loading, .configured].map ConfigState.code = [0, 1, 2]
    ∧ [SupplyState.normal, .derate, .cutoff].map SupplyState.code = [0, 1, 2]
    ∧ ∀ s : State, PortFree s →
    (∀ (offset : BitVec 5) (enables : BitVec 4) (value : Word), ignoredWrite offset enables →
        exec (.registerWriteIgnored offset enables value) s = .next s)
      ∧ (∀ (f : BitVec 3) (k : BitVec 8), invalidOrderFields f k → exec (.invalidOrder f k) s = .next (s.answered .invalid))
      ∧ exec (.attentionRead 0) s = .next { s with port.answer := 0, port.recordFault := false }
      ∧ ∀ (l : LaneId) (c : Instr),
          (s.port.config = .loading → IsConfiguredOrder l c ∨ c = .take l ∨ c = .snap l →
              exec c s = .next (s.answered .busy))
            ∧ (s.port.config = .unconfigured → IsConfiguredOrder l c → exec c s = .next (s.answered .unconfigured))

/-- ANCHOR (R4): accepted on an UNCONFIGURED or CONFIGURED part with every lane IDLE and no exposure in flight; then the value
with its low eight bits clear is the anchor, reads back, and the load begins. Otherwise BUSY, and nothing else changes. -/
def Obligations.AnchorWrite : Prop :=
  ∀ (v : Word) (s : State), PortFree s →
    (s.port.config ≠ .loading ∧ (∀ l, (s.lane l).state = .idle) ∧ s.exposure.inFlight = none →
        exec (.anchor v) s
            = .next { s with port.anchor := v &&& 0xFFFFFF00#32, port.result := .accepted, port.config := .loading }
          ∧ ∀ t, exec (.anchor v) s = .next t → readRegister t 0x04 = v &&& 0xFFFFFF00#32)
      ∧ (¬ (s.port.config ≠ .loading ∧ (∀ l, (s.lane l).state = .idle) ∧ s.exposure.inFlight = none) →
        exec (.anchor v) s = .next (s.answered .busy))

/-- A write of ATTENTION (R17): the mask is bits 3:0 and nothing else changes; ATTN_N is low exactly while an enabled class has a
lane in its queue, whatever the record-fault flag; after both resets the mask is 0 and ATTN_N is high. -/
def Obligations.AttentionWrite : Prop :=
  (∀ (v : Word) (s : State), PortFree s → exec (.attentionWrite v) s = .next { s with port.mask := v.extractLsb' 0 4 })
    ∧ (∀ s : State, s.attnN = false ↔ ∃ c : LaneId, s.port.mask.getLsbD c.val = true ∧ s.port.queues.get c ≠ [])
    ∧ (∀ (s : State) (b : Bool), State.attnN { s with port.recordFault := b } = s.attnN)
    ∧ (∀ (s t : State) (pins : PinLevels), exec (.powerOn pins) s = .next t → t.port.mask = 0 ∧ t.attnN = true)
    ∧ ∀ (s t : State) (left : Stores), exec (.boardReset left) s = .next t → t.port.mask = 0 ∧ t.attnN = true

/-- A read of ATTENTION (R18): the pending bits, the next lane (7 when no enabled class has one), the record-fault flag and the
mask; the read clears the flag and changes nothing else. A partial read returns the bytes it addresses, and clears the flag too. -/
def Obligations.AttentionRead : Prop :=
  ∀ s : State, PortFree s →
    ∃ a : Word, exec (.attentionRead 0xF) s = .next { s with port.answer := a, port.recordFault := false }
      ∧ (∀ c : LaneId, a.getLsbD c.val = true ↔ s.port.queues.get c ≠ [])
      ∧ ((∀ c : LaneId, s.port.mask.getLsbD c.val = true → s.port.queues.get c = []) → a.extractLsb' 4 3 = 7)
      ∧ (∀ (c l : LaneId) (rest : List LaneId), s.port.mask.getLsbD c.val = true → s.port.queues.get c = l :: rest →
          (∀ d : LaneId, d < c → s.port.mask.getLsbD d.val = true → s.port.queues.get d = []) →
          a.extractLsb' 4 3 = BitVec.ofNat 3 l.val)
      ∧ a.getLsbD 8 = s.port.recordFault ∧ a.extractLsb' 16 4 = s.port.mask
      ∧ a.getLsbD 7 = false ∧ a.extractLsb' 9 7 = 0 ∧ a.extractLsb' 20 12 = 0
      ∧ ∀ enables : BitVec 4, enables ≠ 0 →
          ∃ b : Word, exec (.attentionRead enables) s = .next { s with port.answer := b, port.recordFault := false }
            ∧ ∀ i : Fin 4, enables.getLsbD i.val = true → b.extractLsb' (8 * i.val) 8 = a.extractLsb' (8 * i.val) 8

/-! ## The orders -/

/-- START and RESUME (R7, R8), on a configured part whose port answers. START of an IDLE lane without status makes it STARTING,
its lane-block read begun, counters and codes clear. RESUME of a SUSPENDED lane without status makes it fetch again; of a
STARTING, RUNNING or HELD lane it sets RESUME_PENDING. Every other case is refused, BUSY or PENDING as the rules say. That a lane
whose STOP is taken, its done word still being written, is refused BUSY is the model's choice (log 9). -/
def Obligations.StartAndResumeOrders : Prop :=
  ∀ (l : LaneId) (s : State), OrdersRun s →
    let x := s.lane l
    (x.state = .idle → x.statusPending = false →
        exec (.start l) s = .next ((s.answered .accepted).withLane l { x with
          state := .starting, stage := .blockRead, afterJump := false, counters := {}, completion := .none, check := .none }))
      ∧ (x.state = .idle → x.statusPending = true →
          exec (.start l) s = .next (raiseStatus l { pending := true } {} (s.answered .pending)))
      ∧ (x.state ≠ .idle → exec (.start l) s = .next (s.answered .busy))
      ∧ (x.state = .suspended → x.statusPending = false →
          exec (.resume l) s = .next ((s.answered .accepted).withLane l { x with state := .running, stage := .fetch }))
      ∧ (x.state = .suspended → x.statusPending = true →
          exec (.resume l) s = .next (raiseStatus l { pending := true } {} (s.answered .pending)))
      ∧ (x.state = .running → x.stage = .doneWrite .stop → exec (.resume l) s = .next (s.answered .busy))
      ∧ (x.state = .starting ∨ (x.state = .running ∧ x.stage ≠ .doneWrite .stop) ∨ x.state = .held → x.resumePending = false →
          exec (.resume l) s = .next ((s.answered .accepted).withLane l { x with resumePending := true }))
      ∧ (x.state = .starting ∨ x.state = .running ∨ x.state = .held → x.resumePending = true →
          exec (.resume l) s = .next (s.answered .busy))
      ∧ (x.state = .idle ∨ x.state = .draining ∨ x.state = .clearing → exec (.resume l) s = .next (s.answered .busy))

/-- HALT (R9, R35): of a SUSPENDED or HELD lane it ends the program at once; of a STARTING or RUNNING lane it sets HALT_PENDING,
and a lane waiting for its hold ends at once, and one waiting for room or for the head gives its step up ABANDONED and ends at
once. A second HALT, and one of an IDLE, DRAINING or CLEARING lane, is BUSY. That a lane whose STOP is taken, its done word still
being written, is refused BUSY too is the model's choice (log 9), and so are the zeros in the done word of a SINK or MARK given up
(log 42) and a HALT_PENDING that waits behind a STOP not yet taken (log 41). -/
def Obligations.HaltOrder : Prop :=
  ∀ (l : LaneId) (s : State), OrdersRun s →
    let x := s.lane l
    let u := (s.answered .accepted).withLane l { x with haltPending := true }
    (x.state = .suspended ∨ x.state = .held → exec (.halt l) s = .next (endProgram l .halted none (s.answered .accepted)))
      ∧ (x.state = .starting ∨ x.state = .running → x.haltPending = false → x.stage ≠ .doneWrite .stop →
          (x.stage = .boundary ∨ (∃ w, x.stage = .tagged w) → exec (.halt l) s = .next (endProgram l .halted none u))
            ∧ (∀ w, x.stage = .sinkWait w ∨ x.stage = .markWait w ∨ x.stage = .exposeWait w →
                exec (.halt l) s = .next (endProgram l .halted none { u with
                  doneWrites := s.doneWrites ++ [⟨l, x.programAddr, .abandoned, zeros 12, w.noteFlag, .detached⟩] }))
            ∧ (x.stage ≠ .boundary → (∀ w, x.stage ≠ .tagged w ∧ x.stage ≠ .sinkWait w ∧ x.stage ≠ .markWait w
                  ∧ x.stage ≠ .exposeWait w) → exec (.halt l) s = .next u))
      ∧ (x.state = .starting ∨ x.state = .running → x.stage = .doneWrite .stop → exec (.halt l) s = .next (s.answered .busy))
      ∧ (x.haltPending = true → x.state ≠ .suspended → x.state ≠ .held → exec (.halt l) s = .next (s.answered .busy))
      ∧ (x.state = .idle ∨ x.state = .draining ∨ x.state = .clearing → exec (.halt l) s = .next (s.answered .busy))

/-- The end of a program (R33): pending flags dropped, nothing more fetched, the code set and PRIMARY raised, with ALERT for a
check. With the map bound to the lane it drains, its trigger disarmed and "program ended" recorded; else SECONDARY comes in the
same raise and the lane is IDLE. Memory, slots, odometer and every other lane stay as they are. -/
def Obligations.ProgramEnds : Prop :=
  ∀ (l : LaneId) (c : Completion) (k : Option CheckCode) (s : State),
    let t := endProgram l c k s
    let x := s.lane l
    let open_ := decide (s.map.lane = some l)
    let raised : Kinds := { primary := true, secondary := !open_, alert := k.isSome }
    t.lane l = { x with
        state := if open_ then .draining else .idle
        stage := .rest, haltPending := false, resumePending := false, holdPending := false, holdPosition := none
        holdPass := false, completion := c, check := k.getD x.check, statusPending := true
        kinds := if x.statusPending then x.kinds.or raised else raised
        reasons := if x.statusPending then x.reasons else {}
        recordSeq := x.recordSeq + 1 }
      ∧ (∀ m, m ≠ l → t.lane m = s.lane m)
      ∧ (∀ d, t.port.queues.get d
            = if x.statusPending = false ∧ d = x.cls then s.port.queues.get d ++ [l] else s.port.queues.get d)
      ∧ t.map = (if open_ then { s.map with ending := .programEnded } else s.map)
      ∧ t.trigger = (if open_ ∧ s.trigger.armed = some l then
          { s.trigger with armed := none, hw := none, pending := false } else s.trigger)
      ∧ (∃ q, t.statusWrites = s.statusWrites ++ [q] ∧ q.lane = l)
      ∧ t.mem = s.mem ∧ t.slots = s.slots ∧ t.odo = s.odo ∧ t.supply = s.supply ∧ t.exposure = s.exposure
      ∧ t.intake = s.intake ∧ t.requests = s.requests ∧ t.rect = s.rect ∧ t.doneWrites = s.doneWrites
      ∧ t.lateCommits = s.lateCommits

/-- CLEAR (R10, R11, R36, R83, R127, R157, R175): of a CLEARING lane it is accepted without effect. Otherwise the lane is CLEARING,
its pending flags, hold, status and step gone, completion CLEARED and context invalid; it stands in no queue; its step in progress,
and every sink of its survey with the rows written into it, is marked ABANDONED in the host's program, the sinks behind a commit in
progress only when that has ended; its survey, requests and slots are given up and its render is to stop. Nothing else changes, but
for the exposure that a freed slot lets start. The zeros of a SINK or MARK and the counts of an END without the row in flight are
the model's choice (logs 42 and 45), as is the END's reason 0 (log 45), and so is that words already being written are not waited
on (log 13), and that the head is arbitrated once, after all of it (log 54). -/
def Obligations.ClearOrder : Prop :=
  ∀ (l : LaneId) (s : State), OrdersRun s →
    let x := s.lane l
    let open_ := s.map.lane = some l
    let word (results : List Byte) : List DoneWrite := [⟨l, x.programAddr, .abandoned, results, false, .clearing⟩]
    let stepWord : List DoneWrite := match x.stage with
      | .tableRead _ _ => word (zeros 12)
      | .sinkWait _ => word (zeros 12)
      | .markWait _ => word (zeros 12)
      | .exposeWait _ => word (zeros 12)
      | .endWait _ => word (le 4 s.map.committedInDrain ++ le 4 s.map.discardedInDrain ++ le 1 s.map.unplacedInDrain ++ zeros 3)
      | .exposeFlight _ => word (match s.exposure.inFlight.bind fun i => (s.slot i).record with
        | some e => le 4 e.seq.toNat ++ zeros 2 ++ e.flagByte :: zeros 5
        | none => zeros 12)
      | .renderWait _ => if s.requests.any (Request.isPatchOf l) then word (zeros 12) else []
      | _ => []
    let sinkWords : List DoneWrite :=
      if open_ ∧ s.map.commit = none then s.map.sinks.map fun k => k.doneWord l .abandoned 0 .clearing else []
    let detached (d : DoneWrite) : DoneWrite :=
      if d.lane = l ∧ d.role ≠ .clearing then { d with role := .detached, note := false } else d
    let asks : Bool := match x.stage with
      | .renderWait _ => true
      | _ => false
    let v : State := { s with
      port := { s.port with
        result := .accepted, queues := s.port.queues.map fun q => q.filter fun m => decide (m ≠ l) }
      lanes := s.lanes.set l { x with
        state := .clearing, stage := .rest, haltPending := false, resumePending := false, holdPending := false
        holdPosition := none, holdPass := false, afterJump := false, completion := .cleared, check := .none
        statusPending := false, kinds := {}, reasons := {}, notes := 0
        context := { x.context with
          geometryValid := false, lensValid := false, shadeValid := false, toneValid := false, glareValid := false }
        discarding := match x.stage with
          | .blockRead => some .block
          | .tableRead _ _ => some .table
          | _ => x.discarding }
      trigger := if open_ ∧ s.trigger.armed = some l then { s.trigger with armed := none, hw := none, pending := false }
        else s.trigger
      slots := (if open_ then s.slots.map (Slot.surveyDropped l) else s.slots).map (Slot.laneCleared l)
      requests := s.requests.filter fun q =>
        !((decide open_ && Request.isSurveyOf l q) || asks && Request.isPatchOf l q)
      rect := { s.rect with
        render := s.rect.render.map fun r => if r.lane = l then { r with stopping := true } else r }
      map := if open_ then s.mapUnbound.map else s.map
      lateCommits := match s.map.commit with
        | some c => if open_ then s.lateCommits ++ [⟨l, c, s.map.sinks⟩] else s.lateCommits
        | none => s.lateCommits
      doneWrites := s.doneWrites.map detached ++ stepWord ++ sinkWords }
    (x.state = .clearing → exec (.clear l) s = .next (s.answered .accepted))
      ∧ (x.state ≠ .clearing → exec (.clear l) s = .next (headArbitrate v)
          ∧ (s.exposure.inFlight.isSome = true ∨ headWaiters v = [] → exec (.clear l) s = .next v))

/-- TAKE (R12): during a load BUSY; of a status pending lane it clears the status and takes the lane out of its queue, result 0;
of another lane it changes nothing and the result is 1. It writes no record and leaves state and codes as they are. -/
def Obligations.TakeOrder : Prop :=
  ∀ (l : LaneId) (s : State), PortFree s →
    let x := s.lane l
    (s.port.config = .loading → exec (.take l) s = .next (s.answered .busy))
      ∧ (s.port.config ≠ .loading → x.statusPending = true → exec (.take l) s = .next { s with
          port.result := .accepted
          port.queues := s.port.queues.map (fun q => q.filter (fun m => decide (m ≠ l)))
          lanes := s.lanes.set l { x with statusPending := false, kinds := {}, reasons := {}, notes := 0 } })
      ∧ (s.port.config ≠ .loading → x.statusPending = false → exec (.take l) s = .next (s.answered .pending))
      ∧ ResultCode.accepted.code = 0 ∧ ResultCode.pending.code = 1

/-- HOLD, GO and STEP (R178, R183, R184). HOLD sets HOLD_PENDING where the lane may hold, else it is BUSY. GO cancels a hold not
reached, or leaves a hold by its position, the trigger armed for the lane being evaluated. STEP leaves a hold with HOLD_PENDING and
hold pass set. A tagged hold goes on to the SUSPEND flag of the fetched copy; where STEP suspends the lane there and a render can
be granted, that grant comes before the lane holds again (R161; the stage that says so is the model's, log 20). That HOLD and GO of
a lane whose STOP is taken, its done word still being written, are BUSY is the model's choice (log 9), and so is GO to a lane that
waits at a tagged hold point (log 46), and so is that SUSPENDED is raised before GO evaluates the trigger (log 51). -/
def Obligations.HoldOrders : Prop :=
  ∀ (l : LaneId) (s : State), OrdersRun s →
    let x := s.lane l
    let a := s.answered .accepted
    let may := x.options.holdPermit = true ∧ (x.state = .running ∨ x.state = .suspended) ∧ x.holdPending = false
      ∧ x.haltPending = false ∧ x.stage ≠ .doneWrite .stop
    (may → exec (.hold l) s = .next (a.withLane l { x with holdPending := true }))
      ∧ (¬ may → exec (.hold l) s = .next (s.answered .busy))
      ∧ (x.state ≠ .held → x.holdPending = true → x.stage ≠ .doneWrite .stop → exec (.go l) s = .next (a.withLane l { x with
          holdPending := false
          stage := if x.stage = .boundary then .fetch else if x.stage = .leftHold then .rest else x.stage }))
      ∧ (x.state ≠ .held → x.holdPending = false ∨ x.stage = .doneWrite .stop → exec (.go l) s = .next (s.answered .busy))
      ∧ (x.state ≠ .held → exec (.stepOrder l) s = .next (s.answered .busy))
      ∧ (x.state = .held → x.holdPosition = some .boundary →
          exec (.go l) s = .next (evalTriggerFor l (a.withLane l { x with
              state := .running, holdPosition := none, stage := .fetch }))
            ∧ exec (.stepOrder l) s = .next (a.withLane l { x with
              state := .running, holdPosition := none, stage := .fetch, holdPending := true, holdPass := true }))
      ∧ (∀ w, x.state = .held → x.holdPosition = some .tagged → x.stage = .tagged w →
          let stepped := examineSuspend l w (a.withLane l { x with
            state := .running, holdPosition := none, holdPending := true, holdPass := true })
          let grantFirst := (stepped.lane l).state = .suspended ∧ (nextGrant (stepped.atStage l .leftHold)).isSome = true
          exec (.go l) s = .next (evalTriggerFor l (examineSuspend l w (a.withLane l { x with
              state := .running, holdPosition := none, holdPass := true })))
            ∧ (grantFirst → exec (.stepOrder l) s = .next (stepped.atStage l .leftHold))
            ∧ (¬ grantFirst → exec (.stepOrder l) s = .next stepped))
      ∧ (x.state = .held → x.holdPosition = some .suspended →
          (x.resumePending = false → exec (.go l) s = .next (evalTriggerFor l (a.withLane l { x with
              state := .suspended, holdPosition := none })))
            ∧ (x.resumePending = true → exec (.go l) s = .next (evalTriggerFor l (a.withLane l { x with
              state := .running, holdPosition := none, resumePending := false, stage := .fetch })))
            ∧ exec (.stepOrder l) s = .next (a.withLane l { x with
              state := .running, holdPosition := none, stage := .fetch, holdPending := true, holdPass := true }))

/-- SNAP and DUMP (R185 to R187): one inspection record at a time, DUMP of a HELD lane only. SNAP counts the sequence number up,
takes the record of that moment in R186's layout and writes bytes 4 to 63 of it first, bytes 0 to 3 last; DUMP takes the map's
tables in R187's layout and writes them from the lane's dump address up. That byte 1 of a sink entry past the end of the queue is
zero is the model's choice (log 31). -/
def Obligations.InspectionOrders : Prop :=
  ∀ (l : LaneId) (s : State), PortFree s →
    let x := s.lane l
    let m := s.map
    let bound := m.lane.isSome
    let bit (i : Nat) (b : Bool) : Nat := if b then 2 ^ i else 0
    let u := (s.answered .accepted).withLane l { x with snapSeq := x.snapSeq + 1 }
    let at_ := s.port.anchor + BitVec.ofNat 32 (352 + 256 * l.val)
    let nibble (i : Nat) : Nat := match s.slots[i]? with
      | some y => (match y.state with
          | .free => 0
          | .filling => 1
          | .ready => 2
          | .rendering => 3
          | .done => 4
          | .kept => 5) + bit 3 y.inUse
      | none => 15
    let record : List Byte := [BitVec.ofNat 8 x.state.code,
        BitVec.ofNat 8 (match s.supply.state with
          | .normal => 0
          | .derate => 1
          | .cutoff => 2),
        (match m.lane with
          | some k => BitVec.ofNat 8 k.val
          | none => 0xFF),
        BitVec.ofNat 8 (if bound then m.sinks.length else 0)]
      ++ (match m.lane, m.range with
        | some _, some r => leInt 4 r.front ++ leInt 4 r.top
        | _, _ => zeros 8)
      ++ le 2 (if bound then (m.rows.filter Option.isSome).length else 0)
      ++ [BitVec.ofNat 8 (if bound then m.markers.length else 0),
        BitVec.ofNat 8 (bit 0 (bound && m.range.isSome) + bit 1 (bound && s.trigger.armed.isSome)
          + bit 2 (bound && s.trigger.pending) + bit 3 (bound && m.starving) + bit 4 (bound && m.holdRowUsed)
          + bit 5 s.exposure.inFlight.isSome)]
      ++ le 4 (if bound then (m.sinks.map fun k => k.capacity - k.written).sum else 0)
      ++ le 4 s.exposure.seq.toNat ++ leInt 4 s.odo.p ++ leInt 4 s.odo.w1 ++ leInt 4 s.odo.w2 ++ le 2 s.odo.phase1
      ++ le 2 s.odo.phase2 ++ le 2 s.odo.slipCount ++ le 2 s.intake.stray
      ++ le 4 (nibble 0 + 16 * nibble 1 + 256 * nibble 2 + 4096 * nibble 3 + 65536 * nibble 4 + 1048576 * nibble 5
        + 16777216 * nibble 6 + 268435456 * nibble 7)
      ++ le 2 (bit 0 (decide (x.state = .starting ∧ x.stage = .blockRead)) + bit 1 (decide (x.state = .running))
        + bit 2 (decide (x.state = .suspended)) + bit 3 x.haltPending + bit 4 x.resumePending + bit 5 x.holdPending
        + bit 6 (decide (x.state = .held)) + bit 7 (decide (m.lane = some l)) + bit 8 (decide (x.state = .clearing)))
      ++ zeros 10
    let row (q : Option RowRecord) : List Byte := match q with
      | none => zeros 32
      | some r => [1, BitVec.ofNat 8 (bit 0 r.derated + bit 1 r.slip), 0, 0] ++ leInt 4 r.row ++ leInt 4 r.z ++ le 4 r.seq.toNat
          ++ leInt 4 r.pos ++ le 2 r.counts.glare ++ le 2 r.counts.clip ++ le 2 r.counts.out ++ le 2 r.counts.limited ++ zeros 4
    let marked (j : Nat) : Nat := match m.markers[j]? with
      | none => 0
      | some q => if q.target = none then 2 else 1
    let sink (j : Nat) : List Byte := match m.sinks[j]? with
      | none => zeros 16
      | some k => [1, BitVec.ofNat 8 (marked (2 * j) + 16 * marked (2 * j + 1))] ++ le 2 k.capacity ++ le 2 k.written ++ zeros 2
          ++ le 4 k.addr.toNat ++ leInt 4 (if k.written = 0 then 0 else k.firstRow)
    let marker (j : Nat) : List Byte := match m.markers[j]? with
      | none => zeros 8
      | some q => le 4 q.label.toNat ++ (match q.target with
          | some t => leInt 4 t
          | none => zeros 4)
    let dump : List Byte := m.rows.flatMap row ++ (List.range 8).flatMap sink ++ (List.range 16).flatMap marker
    (s.port.config ≠ .loading → s.port.inspection = none →
        exec (.snap l) s = .next { u with port.inspection := some ⟨.snap, [(at_ + 4, record), (at_, le 4 (x.snapSeq + 1).toNat)]⟩ })
      ∧ record.length = 60
      ∧ (s.port.config ≠ .loading → s.port.inspection ≠ none → exec (.snap l) s = .next (s.answered .busy))
      ∧ (s.port.config = .configured → x.state = .held → s.port.inspection = none →
          exec (.dump l) s = .next { s with port.result := .accepted, port.inspection := some ⟨.dump, [(x.dumpAddr, dump)]⟩ })
      ∧ (MapLaw m → dump.length = 16640)
      ∧ (s.port.config = .configured → x.state ≠ .held ∨ s.port.inspection ≠ none →
          exec (.dump l) s = .next (s.answered .busy))
      ∧ [LaneState.idle, .starting, .running, .suspended, .held, .draining, .clearing].map LaneState.code = [0, 1, 2, 3, 4, 5, 6]

/-- SNAP_WRITE_END and DUMP_WRITE_END (R185, R188; the pieces are the model's form, log 26): a piece that has landed is in memory
and the rest follows it; a piece reaches to the end of the record's present part at most; a fault sets the record-fault flag, drops
the rest, frees the port and changes nothing else. -/
def Obligations.InspectionWriteEnds : Prop :=
  ∀ (s : State) (count : Nat) (kind : InspectKind) (a : Word) (bytes : List Byte) (rest : List (Word × List Byte)),
    s.port.inspection = some ⟨kind, (a, bytes) :: rest⟩ →
    let c (w : WriteEnd) : Instr := match kind with
      | .snap => .snapWriteEnd count w
      | .dump => .dumpWriteEnd count w
    (count < bytes.length → exec (c .landed) s = .next { s with
        mem := s.mem.write a (bytes.take count)
        port.inspection := some ⟨kind, (a + BitVec.ofNat 32 count, bytes.drop count) :: rest⟩ })
      ∧ (bytes.length ≤ count → rest ≠ [] → exec (c .landed) s = .next { s with
          mem := s.mem.write a bytes, port.inspection := some ⟨kind, rest⟩ })
      ∧ (bytes.length ≤ count → rest = [] → exec (c .landed) s = .next { s with
          mem := s.mem.write a bytes, port.inspection := none })
      ∧ (∀ left, exec (c (.faulted left)) s = .next { s with
          mem := s.mem.afterStores left, port.recordFault := true, port.inspection := none })
      ∧ ∀ x, OutsideOf a count x → (s.mem.write a (bytes.take count)).byteAt x = s.mem.byteAt x

/-! ## The settings load -/

/-- SETTINGS_LOAD_END (R5, R6): a memory fault ends the load UNCONFIGURED with code 1, a field out of range with its code, and no
value is applied; else the part is CONFIGURED, every slot FREE, every context invalid and every block has its new settings. The
trigger is disarmed at every load that the host can begin. -/
def Obligations.SettingsLoadEnds : Prop :=
  ∀ (s : State) (timers : List (Edge × Nat)), s.port.config = .loading →
    exec (.settingsLoadEnd .faulted timers) s = .next { s with port.config := .unconfigured, port.settingsError := 1 }
      ∧ ∀ stores,
          let m := s.mem.afterStores stores
          let c := Settings.ofBytes (m.read s.port.anchor 64)
          (c.error ≠ 0 → exec (.settingsLoadEnd (.arrived stores) timers) s = .next { s with
              mem := m, port.config := .unconfigured, port.settingsError := c.error })
            ∧ (c.error = 0 → s.trigger.armed = none →
                exec (.settingsLoadEnd (.arrived stores) timers) s = .next { s with
                  mem := m
                  port.config := .configured
                  port.settingsError := 0
                  slots := List.replicate c.slotCount Slot.empty
                  lanes := s.lanes.map fun x => { x with context := { x.context with
                    geometryValid := false, lensValid := false, shadeValid := false, toneValid := false
                    glareValid := false } }
                  odo := loadOdometer c timers s.odo
                  supply.derateCode := c.derateCode
                  supply.cutoffCode := c.cutoffCode
                  exposure.ledCap := c.ledCap
                  exposure.timeCeiling := c.timeCeiling
                  intake.slotCount := c.slotCount
                  intake.slotArea := BitVec.ofNat 32 c.slotArea
                  intake.ws := c.ws
                  intake.hs := c.hs
                  intake.timeoutMs := c.timeoutMs
                  intake.repairLimit := c.repairLimit })

/-- The odometer at the end of a load (R38, R51). A load that leaves the filter code as it was: settings taken, decoder pairs of
changed modes set, counts zeroed on the zero flag, the error counts and flags cleared, a wheel enabled alone brought to p, and the
counts of two wheels resynced when they are further apart than the new limit. A load that changes the filter code judges the
running filter timers against the new time first: each edge whose inputs all differ from their accepted levels, and have held for
at least the new filter time, is accepted; what follows is as in a load that leaves the filter code. That the timers and their
order come with the command, and that edges are accepted after the decoder pairs of changed modes have been set, is the model's
reading (log 21). -/
def Obligations.OdometerLoad : Prop :=
  (∀ (c : Settings) (timers : List (Edge × Nat)) (o : Odometer), c.error = 0 → o.filterCode = c.filterCode →
    let o' := loadOdometer c timers o
    let p := if c.zeroFlag = 1 then 0 else o.p
    let v1 := if c.zeroFlag = 1 then 0 else o.w1
    let v2 := if c.zeroFlag = 1 then 0 else o.w2
    o'.mode1 = WheelMode.ofCode c.mode1 ∧ o'.mode2 = WheelMode.ofCode c.mode2 ∧ o'.filterCode = c.filterCode
      ∧ o'.scale = c.scale ∧ o'.slipLimit = c.slipLimit ∧ o'.pins = o.pins ∧ o'.accepted = o.accepted
      ∧ o'.pair1 = (if o'.mode1 = o.mode1 then o.pair1 else (o.accepted.a1, o.accepted.b1))
      ∧ o'.pair2 = (if o'.mode2 = o.mode2 then o.pair2 else (o.accepted.a2, o.accepted.b2))
      ∧ o'.phase1 = 0 ∧ o'.phase2 = 0 ∧ o'.saturated = false ∧ o'.p = p
      ∧ (c.mode2 = 0 → o'.w1 = p ∧ o'.w2 = v2 ∧ o'.slipCount = 0 ∧ o'.slipFlag = false)
      ∧ (c.mode1 = 0 → o'.w1 = v1 ∧ o'.w2 = p ∧ o'.slipCount = 0 ∧ o'.slipFlag = false)
      ∧ (c.mode1 ≠ 0 → c.mode2 ≠ 0 →
          (0 < c.slipLimit ∧ c.slipLimit < (v1 - v2).natAbs →
              o'.w1 = p ∧ o'.w2 = p ∧ o'.slipCount = 1 ∧ o'.slipFlag = true)
            ∧ (¬ (0 < c.slipLimit ∧ c.slipLimit < (v1 - v2).natAbs) →
              o'.w1 = v1 ∧ o'.w2 = v2 ∧ o'.slipCount = 0 ∧ o'.slipFlag = false)))
    ∧ ∀ (c : Settings) (timers : List (Edge × Nat)) (o : Odometer), o.filterCode ≠ c.filterCode →
      let m1 := WheelMode.ofCode c.mode1
      let m2 := WheelMode.ofCode c.mode2
      let taken : Odometer := { o with
        mode1 := m1, mode2 := m2, filterCode := c.filterCode, scale := c.scale, slipLimit := c.slipLimit
        pair1 := if m1 = o.mode1 then o.pair1 else (o.accepted.a1, o.accepted.b1)
        pair2 := if m2 = o.mode2 then o.pair2 else (o.accepted.a2, o.accepted.b2) }
      let time := if c.filterCode = 0 then 2 else if c.filterCode = 1 then 8 else if c.filterCode = 2 then 32 else 128
      let inputs (e : Edge) : List Input := match e with
        | .single i => [i]
        | .both .one => [.a1, .b1]
        | .both .two => [.a2, .b2]
      let runs (q : Odometer) (e : Edge) : Prop := ∀ i ∈ inputs e, q.pins.level i ≠ q.accepted.level i
      let judged := timers.foldl (fun q x => if runs q x.1 ∧ time ≤ x.2 then acceptEdge x.1 q else q) taken
      loadOdometer c timers o = loadOdometer c [] judged ∧ judged.filterCode = c.filterCode ∧ judged.mode1 = m1
        ∧ judged.mode2 = m2 ∧ judged.pins = o.pins ∧ (timers = [] → judged = taken)

/-- The two records: their layouts, their ranges and the codes of a refusal. In the settings block (R5) and in the geometry record
(R90) each field is the little-endian value at its tabled offset. The settings are taken exactly when every field is in the range
tabled, and a refused block has the error code of its first field out of range in checking order; a geometry (R90, R92) is taken
exactly when every field is in range, its window at most 512 rows deep, a refused one has the check of its first failing field in
checking order, and the window depth is the ceiling of R92. -/
def Obligations.RecordsInRange : Prop :=
  (∀ bs : List Byte,
    let c := Settings.ofBytes bs
    c.slotCount = byteOf bs 0 ∧ c.repairLimit = byteOf bs 1 ∧ c.timeoutMs = byteOf bs 2 ∧ c.filterCode = byteOf bs 3
      ∧ c.slotArea = wordOf bs 4 ∧ c.ws = halfOf bs 8 ∧ c.hs = halfOf bs 10 ∧ c.mode1 = byteOf bs 12 ∧ c.mode2 = byteOf bs 13
      ∧ c.zeroFlag = byteOf bs 14 ∧ c.derateCode = byteOf bs 15 ∧ c.cutoffCode = byteOf bs 16 ∧ c.ledCap = byteOf bs 17
      ∧ c.timeCeiling = halfOf bs 18 ∧ c.scale = wordOf bs 20 ∧ c.slipLimit = wordOf bs 24)
    ∧ ([0, 1, 2].map WheelMode.ofCode = [.off, .quad, .pulse])
    ∧ (∀ c : Settings,
      (c.error = 0 ↔ (3 ≤ c.slotCount ∧ c.slotCount ≤ 8) ∧ c.slotArea % 4096 = 0
          ∧ (256 ≤ c.ws ∧ c.ws ≤ 2048 ∧ c.ws % 16 = 0) ∧ (256 ≤ c.hs ∧ c.hs ≤ 2048 ∧ c.hs % 16 = 0) ∧ 1 ≤ c.timeoutMs
          ∧ c.mode1 ≤ 2 ∧ c.mode2 ≤ 2 ∧ (c.mode1 ≠ 0 ∨ c.mode2 ≠ 0) ∧ c.filterCode ≤ 3 ∧ 1 ≤ c.scale
          ∧ c.slipLimit ≤ 65535 ∧ c.zeroFlag ≤ 1 ∧ c.derateCode ≤ 7
          ∧ (c.cutoffCode ≤ 7 ∧ Config.cutoffMillivolts c.cutoffCode < Config.derateMillivolts c.derateCode)
          ∧ 1 ≤ c.ledCap ∧ 20 ≤ c.timeCeiling ∧ c.timeCeiling ≤ 10000)
        ∧ c.error ≤ 17 ∧ c.error ≠ 1 ∧ c.error ≠ 7
        ∧ c.error =
          (if ¬ (3 ≤ c.slotCount ∧ c.slotCount ≤ 8) then 2
          else if c.slotArea % 4096 ≠ 0 then 3
          else if ¬ (256 ≤ c.ws ∧ c.ws ≤ 2048 ∧ c.ws % 16 = 0) then 4
          else if ¬ (256 ≤ c.hs ∧ c.hs ≤ 2048 ∧ c.hs % 16 = 0) then 5
          else if c.timeoutMs = 0 then 6
          else if 2 < c.mode1 then 8
          else if 2 < c.mode2 ∨ (c.mode1 = 0 ∧ c.mode2 = 0) then 9
          else if 3 < c.filterCode then 10
          else if c.scale = 0 then 11
          else if 65535 < c.slipLimit then 12
          else if 1 < c.zeroFlag then 13
          else if 7 < c.derateCode then 14
          else if 7 < c.cutoffCode ∨ 18000 + 500 * c.derateCode ≤ 16000 + 500 * c.cutoffCode then 15
          else if c.ledCap = 0 then 16
          else if c.timeCeiling < 20 ∨ 10000 < c.timeCeiling then 17
          else 0))
    ∧ (∀ bs : List Byte,
      let g := Geometry.ofBytes bs
      g.radius = wordOf bs 0 ∧ g.ex = signedOf bs 4 ∧ g.ey = signedOf bs 8 ∧ g.roll = halfOf bs 12 ∧ g.width = halfOf bs 14
        ∧ g.zNear = wordOf bs 16 ∧ g.zFar = wordOf bs 20 ∧ g.rowPitch = halfOf bs 24 ∧ g.glareWeight = halfOf bs 26
        ∧ g.cx = wordOf bs 28 ∧ g.cy = wordOf bs 32 ∧ g.ws = halfOf bs 36 ∧ g.hs = halfOf bs 38 ∧ g.dRef = wordOf bs 40
        ∧ g.baseGain = halfOf bs 44 ∧ g.gainLimit = halfOf bs 46 ∧ g.glareCode = bs.getD 48 0 ∧ g.outCode = bs.getD 49 0)
    ∧ ∀ (g : Geometry) (ws hs : Nat),
        let first := 100000 ≤ g.radius ∧ g.radius ≤ 800000 ∧ 2 * g.ex.natAbs ≤ g.radius ∧ 2 * g.ey.natAbs ≤ g.radius
          ∧ g.roll ≤ 4095 ∧ (g.width = 256 ∨ g.width = 512 ∨ g.width = 1024 ∨ g.width = 2048) ∧ 10000 ≤ g.zNear
          ∧ g.zNear < g.zFar ∧ g.zFar ≤ 4000000 ∧ 100 ≤ g.rowPitch ∧ g.rowPitch ≤ 10000
        (g.checkCode ws hs = none ↔ first ∧ g.windowDepth ≤ 512 ∧ g.ws = ws ∧ g.hs = hs ∧ g.cx + 1 ≤ 16 * ws
            ∧ g.cy + 1 ≤ 16 * hs ∧ 10000 ≤ g.dRef ∧ g.dRef ≤ 2000000 ∧ 1 ≤ g.baseGain ∧ 256 ≤ g.gainLimit)
          ∧ (¬ first → g.checkCode ws hs = some .operand)
          ∧ (first → 512 < g.windowDepth → g.checkCode ws hs = some .depth)
          ∧ (first → g.windowDepth ≤ 512 → g.ws ≠ ws ∨ g.hs ≠ hs → g.checkCode ws hs = some .sourceSize)
          ∧ (first → g.windowDepth ≤ 512 → g.ws = ws → g.hs = hs →
              ¬ (g.cx + 1 ≤ 16 * ws ∧ g.cy + 1 ≤ 16 * hs ∧ 10000 ≤ g.dRef ∧ g.dRef ≤ 2000000 ∧ 1 ≤ g.baseGain
                ∧ 256 ≤ g.gainLimit) → g.checkCode ws hs = some .operand)
          ∧ (first → (g.zFar : Int) - g.zNear ≤ g.windowDepth * g.rowPitch
              ∧ (g.windowDepth - 1) * g.rowPitch < (g.zFar : Int) - g.zNear)

/-! ## The course of a program -/

/-- LANE_BLOCK_READ_END (R7, R24), for a lane that stands in no queue: a fault ends the program CHECK, MEMORY; else the lane takes
its fields, and a misaligned program address ends it CHECK, OPERAND, a HALT ends it HALTED, and else the lane fetches. A read that
CLEAR discards changes no lane but that it has ended, arrived or faulted (R11). Each field of the block is the value at its tabled
place (R7). That the step address so reported stands in every record until a fetch has ended is the model's choice (log 61). -/
def Obligations.LaneBlockReadEnds : Prop :=
  (∀ bs : List Byte,
      let b := LaneBlock.ofBytes bs
      let flags := bs.getD 5 0
      b.programAddr.toNat = wordOf bs 0 ∧ b.cls.val = byteOf bs 4 % 4 ∧ b.options.initial = flags.getLsbD 0
        ∧ b.options.quiet = flags.getLsbD 1 ∧ b.options.suspendPermit = flags.getLsbD 2 ∧ b.options.holdPermit = flags.getLsbD 3
        ∧ b.options.holdRowValid = flags.getLsbD 4 ∧ b.holdRow = signedOf bs 8 ∧ b.dumpAddr.toNat = wordOf bs 12 / 16 * 16)
    ∧ ∀ (l : LaneId) (s : State),
    let x := s.lane l
    (x.stage = .blockRead → exec (.laneBlockReadEnd l .faulted) s
        = .next (endProgram l .check (some .memory) (s.withLane l { x with lastStep := laneBlockAddr s.port.anchor l })))
      ∧ (∀ stores, x.stage = .blockRead → x.statusPending = false → (∀ c, l ∉ s.port.queues.get c) →
          let m := s.mem.afterStores stores
          let b := LaneBlock.ofBytes (m.read (laneBlockAddr s.port.anchor l) 16)
          let y : Lane := { x with
            programAddr := b.programAddr, lastStep := b.programAddr, cls := b.cls, options := b.options
            holdRow := b.holdRow, dumpAddr := b.dumpAddr }
          let u := { s with mem := m }
          (b.programAddr.toNat % 32 ≠ 0 → exec (.laneBlockReadEnd l (.arrived stores)) s
              = .next (endProgram l .check (some .operand) (u.withLane l y)))
            ∧ (b.programAddr.toNat % 32 = 0 → x.haltPending = true → exec (.laneBlockReadEnd l (.arrived stores)) s
              = .next (endProgram l .halted none (u.withLane l y)))
            ∧ (b.programAddr.toNat % 32 = 0 → x.haltPending = false → x.holdPending = false →
              exec (.laneBlockReadEnd l (.arrived stores)) s = .next (u.withLane l { y with stage := .fetch })))
      ∧ (x.stage ≠ .blockRead → x.discarding = some .block →
          exec (.laneBlockReadEnd l .faulted) s = .next (s.withLane l { x with discarding := none })
            ∧ ∀ stores, exec (.laneBlockReadEnd l (.arrived stores)) s
              = .next ({ s with mem := s.mem.afterStores stores }.withLane l { x with discarding := none }))

/-- STEP_FETCH (R20, R23, R25, R26, R28, R180). A step word's code, flags and operands are the little-endian values at their
places, and its code is one of the sixteen of R20. A fault ends the program CHECK, MEMORY. A fetched step, the first one as any
other, is refused JUMP_CHAIN, held at its HOLD flag, suspended at its SUSPEND flag, refused STEP_CODE, or about to be taken. The
first fetch makes a STARTING lane RUNNING, with INITIAL if it was asked for, before any of these. The model's choices: that a step
about to be taken, a STOP too, is taken before HALT_PENDING acts (log 41), that a HALT_PENDING met at the suspension or at a tagged
hold point ends the program HALTED there (log 10), that a first fetch that faults raises no INITIAL (log 32), and that
HOLD_PENDING, set during the fetch, does not keep the lane from suspending (log 62). -/
def Obligations.StepFetched : Prop :=
  (∀ bs : List Byte,
      let w := StepWord.ofBytes bs
      let flags := bs.getD 1 0
      w.code = bs.getD 0 0 ∧ w.suspendFlag = flags.getLsbD 0 ∧ w.noteFlag = flags.getLsbD 1 ∧ w.holdFlag = flags.getLsbD 2
        ∧ (∀ i, 16 ≤ i → w.operand i 1 = byteOf bs i ∧ w.operand i 2 = halfOf bs i ∧ w.operand i 4 = wordOf bs i)
        ∧ w.tag.val = byteOf bs 16 % 8
        ∧ w.patchOps = ⟨halfOf bs 16 % 2048, Fin.ofNat 8 (halfOf bs 16 / 8192), halfOf bs 18, halfOf bs 20, halfOf bs 22,
            halfOf bs 24 + 65536 * byteOf bs 26, byteOf bs 27, BitVec.ofNat 32 (wordOf bs 28)⟩)
    ∧ (∀ c : Byte, c ∈ knownCodes ↔ (1 ≤ c.toNat ∧ c.toNat ≤ 6) ∨ (8 ≤ c.toNat ∧ c.toNat ≤ 11) ∨ (16 ≤ c.toNat ∧ c.toNat ≤ 19)
        ∨ c.toNat = 32 ∨ c.toNat = 33)
    ∧ ∀ (l : LaneId) (s : State), (s.lane l).stage = .fetch →
      let x := s.lane l
      let y : Lane := { x with stage := .rest, lastStep := x.programAddr }
      exec (.stepFetch l .faulted) s = .next (endProgram l .check (some .memory) (s.withLane l y))
        ∧ ∀ stores,
            let v := { s with mem := s.mem.afterStores stores }
            let w := StepWord.ofBytes (v.mem.read x.programAddr 32)
            let chained := x.afterJump = true ∧ w.code = 0x20
            let passesHold := ¬ chained ∧ (w.holdFlag = false ∨ x.options.holdPermit = true ∧ x.holdPass = true)
            let now (t : State) := exec (.stepFetch l (.arrived stores)) s = .next t
            ∀ u : State,
              (x.state = .running ∧ u = v.withLane l y
                ∨ x.state = .starting ∧ x.options.initial = false ∧ u = v.withLane l { y with state := .running }
                ∨ x.state = .starting ∧ x.options.initial = true
                  ∧ u = raiseIntermediate l { initial := true } (v.withLane l { y with state := .running })) →
              let z := u.lane l
              (passesHold → w.suspendFlag = false → w.code ∈ knownCodes → now (u.atStage l (.take w)))
                ∧ (chained → now (u.checked l w .jumpChain))
                ∧ (passesHold → w.suspendFlag = false → w.code ∉ knownCodes → now (u.checked l w .stepCode))
                ∧ (¬ chained → w.holdFlag = true →
                    (x.options.holdPermit = false → now (u.checked l w .hold))
                      ∧ (x.options.holdPermit = true → x.holdPass = false → x.haltPending = true →
                          now (endProgram l .halted none u))
                      ∧ (x.options.holdPermit = true → x.holdPass = false → x.haltPending = false →
                          (surveyRenderOf s l = true → now (u.atStage l (.tagged w)))
                            ∧ (surveyRenderOf s l = false → now (reachHold l .tagged (u.atStage l (.tagged w))))))
                ∧ (passesHold → w.suspendFlag = true →
                    (x.options.suspendPermit = false → now (u.checked l w .suspend))
                      ∧ (x.options.suspendPermit = true → x.resumePending = true →
                          now (u.withLane l { z with resumePending := false, stage := .fetch }))
                      ∧ (x.options.suspendPermit = true → x.resumePending = false → x.haltPending = true →
                          now (endProgram l .halted none u))
                      ∧ (x.options.suspendPermit = true → x.resumePending = false → x.haltPending = false →
                          (x.options.quiet = true → now (u.withLane l { z with state := .suspended, holdPass := false }))
                            ∧ (x.options.quiet = false → now (raiseIntermediate l { suspended := true }
                                (u.withLane l { z with state := .suspended, holdPass := false })))))

/-- DONE_WORD_WRITE_END (R21, R24, R27 to R34, R147, R154, R155, R173), of any done word in flight, wherever it stands among those
of its lane and of the others: which of a lane's lands is said by its place among them (the model's form, log 28). Landed, bytes 2
to 15 of the step hold it and no other byte has changed; faulted, the record-fault flag is set. ALERT follows a failed render or a
starved END, NOTE follows if the step asks for it, and the lane that waited (log 8) goes on: past the step, to the jump target, to
the end of its program, or, after a map fault, to its wind-down. After the last word of the sinks that close with the survey the
map unbinds: END's word is written, or the lane is IDLE with SECONDARY. The model's own: that the record of that raise shows IDLE
(log 38), that a DRAINING lane keeps its completion and check code when a check's word ends (log 34), or keeps FAULT when a STOP's
does (log 57), that ALERT comes before NOTE where a starved END asks for it (log 49), and that NOTE comes before the program ends,
but for a STOP, where R30 says so (log 52), and before the map unbinds or the wind-down ends (log 53). -/
def Obligations.DoneWordWritten : Prop :=
  ([DoneCode.none, .done, .exception, .abandoned, .checked].map DoneCode.code = [0, 1, 2, 3, 4])
    ∧ (∀ (s : State) (d : DoneWrite) (older newer : List DoneWrite), s.doneWrites = older ++ d :: newer →
    let rest := older ++ newer
    let l := d.lane
    let nth := older.countP fun p => decide (p.lane = l)
    let x := s.lane l
    let m := (s.mem.write (d.addr + 4) d.results).write (d.addr + 2) [BitVec.ofNat 8 d.code.code, 0]
    let landed := { s with mem := m, doneWrites := rest }
    let lost (left : Stores) := { s with
      mem := s.mem.afterStores left, port.recordFault := true, doneWrites := rest }
    let noted (v : State) := if d.note then raiseIntermediate l { note := true } v else v
    let starved (v : State) : State := raiseAlert l (v.withLane l { x with completion := .drainStarved })
    let ends (e : WriteEnd) (t : State) := exec (.doneWordWriteEnd l nth e) s = .next t
    let closers := s.map.phase = .closing ∧ ∀ p ∈ rest, p.role ≠ .sinkClose
    (d.results.length = 12 → m.read (d.addr + 4) 12 = d.results ∧ m.read (d.addr + 2) 2 = [BitVec.ofNat 8 d.code.code, 0]
        ∧ ∀ a, OutsideOf (d.addr + 2) 14 a → m.byteAt a = s.mem.byteAt a)
      ∧ ∀ (e : WriteEnd) (v : State), (e = .landed ∧ v = landed ∨ ∃ left, e = .faulted left ∧ v = lost left) →
          let onward (u : State) (y : Lane) : Prop :=
            (x.haltPending = false → x.holdPending = false → ends e (u.withLane l { y with stage := .fetch }))
              ∧ (x.haltPending = false → x.holdPending = true → ends e (u.withLane l { y with stage := .boundary }))
              ∧ (x.haltPending = true → ends e (endProgram l .halted none (u.withLane l y)))
          let past (u : State) : Prop := onward u { u.lane l with programAddr := x.programAddr + 32 }
          let winds (u : State) : Prop :=
            (s.map.lane ≠ some l → ends e (raiseStatus l { secondary := true } {} (u.withLane l { u.lane l with
                state := .idle, stage := .rest })))
              ∧ (s.map.lane = some l → ends e (u.withLane l { u.lane l with stage := .rest }))
          (d.role = .detached ∨ d.role = .sinkFull → ends e (noted v))
            ∧ (d.role = .clearing → ends e v)
            ∧ (d.role = .sinkClose → (¬ closers → ends e (noted v)) ∧ (closers → ends e (endSurveyNow (noted v))))
            ∧ (d.role = .current → x.state = .running →
              (x.stage = .doneWrite .advance → past (noted v))
                ∧ (∀ target, x.stage = .doneWrite (.jump target) → onward (noted v) { (noted v).lane l with
                    programAddr := target, afterJump := true })
                ∧ (x.stage = .doneWrite .advanceAlert → past (noted (raiseAlert l v)))
                ∧ (x.stage = .doneWrite .advanceStarved → past (noted (starved v)))
                ∧ (x.stage = .doneWrite .stop → ends e (endProgram l .normal none (noted v)))
                ∧ (∀ c, x.stage = .doneWrite (.check c) → ends e (endProgram l .check (some c) (noted v))))
            ∧ (d.role = .current → x.state = .draining →
              (x.stage = .doneWrite .advance ∨ x.stage = .doneWrite .stop ∨ (∃ target, x.stage = .doneWrite (.jump target))
                  ∨ (∃ c, x.stage = .doneWrite (.check c)) → winds (noted v))
                ∧ (x.stage = .doneWrite .advanceAlert → winds (noted (raiseAlert l v)))
                ∧ (x.stage = .doneWrite .advanceStarved → winds (noted (starved v)))))
    ∧ ∀ (u : State) (l : LaneId), u.map.lane = some l →
        let x := u.lane l
        let unbound := u.mapUnbound
        let results (reason : Byte) := le 4 u.map.committedInDrain ++ le 4 u.map.discardedInDrain ++ le 1 u.map.unplacedInDrain
          ++ reason :: zeros 2
        (u.map.faulted = true →
            (x.state = .draining → x.stage = .rest → endSurveyNow u
                = raiseStatus l { secondary := true } {} (unbound.withLane l { x with state := .idle }))
              ∧ (x.stage ≠ .rest → endSurveyNow u = unbound))
          ∧ (∀ w, u.map.faulted = false → u.map.ending = .endTaken → x.stage = .endWait w →
              (u.map.starvedDrain = false → endSurveyNow u = unbound.ended l w .done (results 0) .advance)
                ∧ (u.map.starvedDrain = true → endSurveyNow u = unbound.ended l w .exception (results 1) .advanceStarved))
          ∧ (u.map.faulted = false → u.map.ending = .programEnded →
              (u.map.starvedDrain = false → endSurveyNow u
                  = raiseStatus l { secondary := true } {} (unbound.withLane l { x with state := .idle }))
                ∧ (u.map.starvedDrain = true → endSurveyNow u = raiseStatus l { secondary := true, alert := true } {}
                  (unbound.withLane l { x with state := .idle, completion := .drainStarved })))

/-- JUMP, STOP and POSE as taken (R29, R30, R97): JUMP to a multiple of 32 ends DONE with results of zero and goes to its target,
to another address it is refused OPERAND; STOP ends DONE and then the program ends; POSE with a valid geometry, both offsets within
half its radius and the roll below 4096 replaces the pose whole, else it is refused OPERAND and the context stays. -/
def Obligations.JumpStopPoseSteps : Prop :=
  (∀ (l : LaneId) (w : StepWord) (s : State),
    (Taking s l w 0x20 → w.operand 16 4 % 32 = 0 →
        exec (.jump l) s = .next ((s.took l).ended l w .done (zeros 12) (.jump (BitVec.ofNat 32 (w.operand 16 4)))))
      ∧ (Taking s l w 0x20 → w.operand 16 4 % 32 ≠ 0 → exec (.jump l) s = .next ((s.took l).checked l w .operand))
      ∧ (Taking s l w 0x21 → exec (.stop l) s = .next ((s.took l).ended l w .done (zeros 12) .stop)))
    ∧ ∀ (l : LaneId) (w : StepWord) (s : State), Taking s l w 0x06 →
        let c := (s.lane l).context
        let ex := signed32 (w.operand 16 4)
        let ey := signed32 (w.operand 20 4)
        let roll := w.operand 24 2
        let passes := c.geometryValid = true ∧ 2 * ex.natAbs ≤ c.geometry.radius ∧ 2 * ey.natAbs ≤ c.geometry.radius
          ∧ roll ≤ 4095
        (passes → exec (.pose l) s = .next (((s.took l).withLane l { (s.took l).lane l with
              context := { c with pose := ⟨ex, ey, roll⟩ } }).ended l w .done (c.flagByte :: zeros 11) .advance))
          ∧ (¬ passes → exec (.pose l) s = .next ((s.took l).checked l w .operand))

/-- HOLD_REACHED and CLEARING_END (R11, R61, R179). A lane at its place to hold, with no survey render of its survey in progress,
becomes HELD, HOLD_PENDING clears, the trigger's pending flag set for it is withheld and counted, and HELD is raised. A lane that
STEP has suspended as it left a hold is not held again before the render grant of that leaving, where one can be made (R161; log
20). A CLEARING lane with nothing left to end becomes IDLE and raises status with no kinds. -/
def Obligations.HoldReachedAndClearingEnds : Prop :=
  ∀ (l : LaneId) (s : State),
    let x := s.lane l
    let y (pos : HoldPosition) : Lane := { x with
      state := .held, stage := if x.stage = .leftHold then .rest else x.stage, holdPending := false, holdPosition := some pos }
    (∀ pos, (x.state = .running ∧ x.stage = .boundary ∧ x.holdPending = true ∧ pos = .boundary
          ∨ (∃ w, x.state = .running ∧ x.stage = .tagged w ∧ pos = .tagged)
          ∨ x.state = .suspended ∧ x.holdPending = true ∧ pos = .suspended) →
        surveyRenderOf s l = false → (x.stage = .leftHold → nextGrant s = none) →
        (¬ (s.trigger.armed = some l ∧ s.trigger.pending = true) →
            exec (.holdReached l) s = .next (raiseIntermediate l { held := true } (s.withLane l (y pos))))
          ∧ (s.trigger.armed = some l ∧ s.trigger.pending = true →
            exec (.holdReached l) s = .next (raiseIntermediate l { held := true }
              ({ s with trigger.pending := false }.withLane l { y pos with
                counters.withheldHeld := min (2 ^ 32 - 1) (x.counters.withheldHeld + 1) }))))
      ∧ (x.state = .suspended → x.stage = .leftHold → (nextGrant s).isSome = true →
          exec (.holdReached l) s = .refused .eventNotDue)
      ∧ (surveyRenderOf s l = true ↔ ∃ r last n, s.rect.render = some r ∧ r.job = .survey last n ∧ r.lane = l
          ∧ s.map.lane = some l ∧ r.stopping = false)
      ∧ (x.state = .clearing → (∀ r, s.rect.render = some r → r.lane = l → r.stopping = false) →
          (∀ d ∈ s.doneWrites, d.lane = l → d.role ≠ .clearing) → x.discarding = none → (∀ q ∈ s.lateCommits, q.lane ≠ l) →
          exec (.clearingEnd l) s = .next (raiseStatus l {} {} (s.withLane l { x with state := .idle })))

/-! ## Render contexts -/

/-- GEOMETRY, LENS, SHADE, TONE and GLARE as taken (R87, R88): with the address a multiple of 4 and the lane's survey not open
the read begins, SHADE with a valid geometry only; else the step is refused OPERAND, LOCKED or CONTEXT. -/
def Obligations.TableSteps : Prop :=
  ∀ (l : LaneId) (w : StepWord) (s : State) (code : Byte) (c : Instr) (len : Nat),
    (code = 0x01 ∧ c = .geometry l ∧ len = 64 ∨ code = 0x02 ∧ c = .lens l ∧ len = 1028
      ∨ code = 0x03 ∧ c = .shade l ∧ len = 2 * (s.lane l).context.geometry.width
      ∨ code = 0x04 ∧ c = .tone l ∧ len = 4096 ∨ code = 0x05 ∧ c = .glare l ∧ len = 512) →
    Taking s l w code →
    let open_ := s.map.lane = some l
    let lacks := code = 0x03 ∧ (s.lane l).context.geometryValid = false
    (w.operand 16 4 % 4 = 0 → ¬ open_ → ¬ lacks → exec c s = .next ((s.took l).atStage l (.tableRead w len)))
      ∧ (w.operand 16 4 % 4 ≠ 0 → exec c s = .next ((s.took l).checked l w .operand))
      ∧ (w.operand 16 4 % 4 = 0 → open_ → exec c s = .next ((s.took l).checked l w .locked))
      ∧ (w.operand 16 4 % 4 = 0 → ¬ open_ → lacks → exec c s = .next ((s.took l).checked l w .context))

/-- TABLE_READ_END (R89, R91 to R96): a fault refuses the step MEMORY and leaves the context; else the table of the step replaces
the part of the context, a geometry only if it passes R90, and the done word reports flags, cleared shade and count. A read that
CLEAR discards changes no context (R86). The entries of LENS and SHADE are the little-endian values at their places (R93), a glare
set's count is that of its members (R93, R96), and the valid flags have their bits (R89). -/
def Obligations.TableReadEnds : Prop :=
  (∀ bs : List Byte,
      lensEntries bs = ((List.range (bs.length / 4)).map fun i => (halfOf bs (4 * i), halfOf bs (4 * i + 2)))
        ∧ halfWords bs = ((List.range (bs.length / 2)).map fun i => halfOf bs (2 * i))
        ∧ glareCount bs = (List.range (8 * bs.length)).countP fun c => (bs.getD (c / 8) 0).getLsbD (c % 8))
    ∧ (∀ c : Context,
      let bit (i : Nat) (b : Bool) : Nat := if b then 2 ^ i else 0
      c.flagByte = BitVec.ofNat 8 (bit 0 c.geometryValid + bit 1 c.lensValid + bit 2 c.shadeValid + bit 3 c.toneValid
        + bit 4 c.glareValid))
    ∧ ∀ (l : LaneId) (s : State),
    let x := s.lane l
    (∀ w len, x.stage = .tableRead w len →
        exec (.tableReadEnd l .faulted) s = .next (s.checked l w .memory)
          ∧ ∀ stores,
              let v := { s with mem := s.mem.afterStores stores }
              let bs := v.mem.read (BitVec.ofNat 32 (w.operand 16 4)) len
              let loaded (c : Context) (results : List Byte) := exec (.tableReadEnd l (.arrived stores)) s
                = .next ((v.withLane l { x with context := c }).ended l w .done (c.flagByte :: results) .advance)
              (w.code = 0x01 → ∀ e, (Geometry.ofBytes bs).checkCode s.intake.ws s.intake.hs = some e →
                  exec (.tableReadEnd l (.arrived stores)) s = .next (v.checked l w e))
                ∧ (w.code = 0x01 → (Geometry.ofBytes bs).checkCode s.intake.ws s.intake.hs = none →
                  let g := Geometry.ofBytes bs
                  loaded { x.context with
                      geometry := g, geometryValid := true, pose := ⟨g.ex, g.ey, g.roll⟩
                      shadeValid := x.context.shadeValid && decide (g.width = x.context.geometry.width) }
                    ((if x.context.shadeValid = true ∧ g.width ≠ x.context.geometry.width then 1 else 0)
                      :: (le 2 g.windowDepth.toNat ++ zeros 8)))
                ∧ (w.code = 0x02 → loaded { x.context with lens := lensEntries bs, lensValid := true } (zeros 11))
                ∧ (w.code = 0x03 → loaded { x.context with shade := halfWords bs, shadeValid := true } (zeros 11))
                ∧ (w.code = 0x04 → loaded { x.context with tone := bs, toneValid := true } (zeros 11))
                ∧ (w.code = 0x05 → loaded { x.context with glare := bs, glareValid := true }
                    (0 :: (le 2 (glareCount bs) ++ zeros 8))))
      ∧ (∀ stores, x.stage = .rest → x.discarding = some .table →
          exec (.tableReadEnd l (.arrived stores)) s
              = .next ({ s with mem := s.mem.afterStores stores }.withLane l { x with discarding := none })
            ∧ exec (.tableReadEnd l .faulted) s = .next (s.withLane l { x with discarding := none }))

/-! ## The survey -/

/-- BEGIN as taken (R130, R131, R59): the operand tests, the context, then whose survey is open; a BEGIN that passes binds the
map, empty, with the geometry's values, arms the trigger, which is an evaluation of it, and ends DONE with results of zero. -/
def Obligations.BeginStep : Prop :=
  ∀ (l : LaneId) (w : StepWord) (s : State), Taking s l w 0x08 →
    let c := (s.lane l).context
    let g := c.geometry
    let inRange := w.operand 16 2 ≠ 0 ∧ 20 ≤ w.operand 18 2 ∧ w.operand 18 2 ≤ 10000 ∧ w.operand 20 1 ≠ 0
      ∧ w.operand 24 4 % 4096 = 0
    let now (t : State) := exec (.beginSurvey l) s = .next t
    (¬ inRange → now ((s.took l).checked l w .operand))
      ∧ (inRange → c.complete = false → now ((s.took l).checked l w .context))
      ∧ (inRange → c.complete = true → s.map.lane = some l → now ((s.took l).checked l w .surveyOpen))
      ∧ (∀ m, inRange → c.complete = true → s.map.lane = some m → m ≠ l → now ((s.took l).checked l w .surveyBusy))
      ∧ (inRange → c.complete = true → s.map.lane = none →
          now (evalTrigger { (s.took l).ended l w .done (zeros 12) .advance with
            map := {
              lane := some l, width := g.width, zNear := g.zNear, zFar := g.zFar, rowPitch := g.rowPitch
              glareWeight := g.glareWeight, staging := BitVec.ofNat 32 (w.operand 24 4)
              rows := List.replicate 512 none, range := none, sinks := [], markers := [], starving := false
              holdRowUsed := false, ending := .none, phase := .surveying, commit := none, committedInDrain := 0
              discardedInDrain := 0, unplacedInDrain := 0, starvedDrain := false, faulted := false }
            trigger := {
              armed := some l, pitch := w.operand 16 2, lReq := w.operand 20 1, tReq := w.operand 18 2, hw := none
              pending := false } }))

/-- SINK, MARK and END as taken (R144, R149, R151). SINK and MARK join their queue, SINK with its done word still to come, MARK
with target F or first row, or wait for room; END records its ending, disarms the trigger and waits for the drain. A lane whose
survey is not open is refused NO_SURVEY. With HALT_PENDING the wait is given up (log 10), with zeros in the done word of the SINK
or MARK (log 42). -/
def Obligations.SurveyQueueSteps : Prop :=
  ∀ (l : LaneId) (w : StepWord) (s : State),
    let x := s.lane l
    let y : Lane := { x with holdPass := false, afterJump := false }
    let open_ := s.map.lane = some l
    let givenUp := endProgram l .halted none { s.took l with
      doneWrites := s.doneWrites ++ [⟨l, x.programAddr, .abandoned, zeros 12, w.noteFlag, .detached⟩] }
    let queued : State := { s with map.sinks := s.map.sinks
      ++ [⟨x.programAddr, BitVec.ofNat 32 (w.operand 16 4), w.operand 20 2, 0, 0, w.noteFlag⟩] }
    let marked : State := { s.took l with map.markers := s.map.markers
      ++ [⟨BitVec.ofNat 32 (w.operand 16 4), s.map.range.map (·.front)⟩] }
    let fits := w.operand 16 4 % 16 = 0 ∧ 1 ≤ w.operand 20 2 ∧ w.operand 20 2 ≤ 4096
    (Taking s l w 0x09 →
        (¬ fits → exec (.sink l) s = .next ((s.took l).checked l w .operand))
          ∧ (fits → ¬ open_ → exec (.sink l) s = .next ((s.took l).checked l w .noSurvey))
          ∧ (fits → open_ → s.map.sinks.length < 8 →
              (x.haltPending = false → x.holdPending = false → exec (.sink l) s = .next (queued.withLane l { y with
                  programAddr := x.programAddr + 32, stage := .fetch }))
                ∧ (x.haltPending = false → x.holdPending = true → exec (.sink l) s = .next (queued.withLane l { y with
                  programAddr := x.programAddr + 32, stage := .boundary }))
                ∧ (x.haltPending = true → exec (.sink l) s = .next (endProgram l .halted none (queued.withLane l { y with
                  programAddr := x.programAddr + 32 }))))
          ∧ (fits → open_ → 8 ≤ s.map.sinks.length →
              (x.haltPending = false → exec (.sink l) s = .next ((s.took l).atStage l (.sinkWait w)))
                ∧ (x.haltPending = true → exec (.sink l) s = .next givenUp)))
      ∧ (Taking s l w 0x0A →
        (¬ open_ → exec (.mark l) s = .next ((s.took l).checked l w .noSurvey))
          ∧ (open_ → s.map.markers.length < 16 → exec (.mark l) s = .next (marked.ended l w .done
              (match s.map.range with
                | some r => leInt 4 r.front ++ zeros 8
                | none => zeros 4 ++ 1 :: zeros 7) .advance))
          ∧ (open_ → 16 ≤ s.map.markers.length →
              (x.haltPending = false → exec (.mark l) s = .next ((s.took l).atStage l (.markWait w)))
                ∧ (x.haltPending = true → exec (.mark l) s = .next givenUp)))
      ∧ (Taking s l w 0x0B →
        (¬ open_ → exec (.endSurvey l) s = .next ((s.took l).checked l w .noSurvey))
          ∧ (open_ → exec (.endSurvey l) s = .next { (s.took l).atStage l (.endWait w) with
              map := { s.map with ending := .endTaken }
              trigger := if s.trigger.armed = some l then { s.trigger with armed := none, hw := none, pending := false }
                else s.trigger }))

/-- The window of a frame (R135): row n is in it exactly when its depth n times the row pitch less P lies from z_near up to
z_far; it has as many rows as the window depth of R92, or one fewer. -/
def Obligations.WindowRows : Prop :=
  ∀ (m : WallMap) (pos n : Int), 0 < m.rowPitch →
    (windowFirst m pos ≤ n ∧ n ≤ windowLast m pos
        ↔ (m.zNear : Int) ≤ surveyDepth m.rowPitch pos n ∧ surveyDepth m.rowPitch pos n < m.zFar)
      ∧ ∀ g : Geometry, g.zNear = m.zNear → g.zFar = m.zFar → g.rowPitch = m.rowPitch → m.zNear < m.zFar →
          windowLast m pos + 1 - windowFirst m pos ≤ g.windowDepth
            ∧ g.windowDepth - 1 ≤ windowLast m pos + 1 - windowFirst m pos

/-- A candidate row at the map (R133, R134, R141, R142): above h it opens the row; met by an open row it replaces it exactly when
its score does not exceed the other's; else the map and the staging area stay. The open rows stay the run F to h. That the row
stands in the staging area as its write is issued is the model's choice (log 17). -/
def Obligations.CandidateTaken : Prop :=
  ∀ (s : State) (r : RowRange) (rr : RowRecord) (codes : List Byte), OpenRun s.map r →
    r.front ≤ rr.row → rr.row ≤ r.top + 1 → rr.row < r.front + 512 →
    let t := takeCandidate rr codes s
    let staged := s.mem.write (s.map.staging + BitVec.ofNat 32 ((rr.row % 512).toNat * s.map.width)) codes
    (rr.row = r.top + 1 → openRow t.map rr.row = some rr ∧ t.mem = staged ∧ OpenRun t.map { r with top := rr.row })
      ∧ (∀ old, openRow s.map rr.row = some old →
          (rr.score ≤ old.score → openRow t.map rr.row = some rr ∧ t.mem = staged ∧ OpenRun t.map r)
            ∧ (old.score < rr.score → t = s))
      ∧ (∀ n, r.front ≤ n → n ≤ r.top → n ≠ rr.row → openRow t.map n = openRow s.map n)
      ∧ ∀ (z : Int) (glare : Nat), rowScore s.map z glare = z + s.map.glareWeight * glare

/-- ROW_COMMIT_END (R137, R139, R144, R146, R147, R153, R157): the sink write of a row landed: the row is in memory, the counters
and the sink's rows written rise, the row slot is empty and F is the next row. A sink now full closes DONE, and a SINK that waited
for room joins and its lane goes on. Then the next row of the run follows, or the drain is starved or ends, or the admission ends
with the forced hold where it applies, also with HALT_PENDING set (the model's choice, log 44). A row whose survey a CLEAR has
ended counts in its sink, and every sink closes ABANDONED. -/
def Obligations.RowCommitEnds : Prop :=
  (∀ (l : LaneId) (s : State) (c : Commit) (k : Sink) (ks : List Sink) (stores : Stores),
    s.map.lane = some l → s.map.commit = some c → s.map.sinks = k :: ks → (∀ q ∈ s.lateCommits, q.lane ≠ l) →
    s.map.phase ≠ .closing →
    let x := s.lane l
    let drains := s.map.phase = .draining
    let k' : Sink := { k with written := k.written + 1, firstRow := if k.written = 0 then c.row else k.firstRow }
    let y : Lane := { x with counters := { x.counters with
      committed := min (2 ^ 32 - 1) (x.counters.committed + 1)
      gaps := if c.gap then min (2 ^ 32 - 1) (x.counters.gaps + 1) else x.counters.gaps } }
    let landed (sinks : List Sink) : State := State.withLane { s with
        mem := (s.mem.afterStores stores).write c.addr c.bytes
        map := { s.map with
          commit := none, rows := s.map.rows.set (rowSlot c.row) none, sinks := sinks
          range := s.map.range.map fun r => ⟨c.row + 1, max r.top c.row⟩
          committedInDrain := if drains then s.map.committedInDrain + 1 else s.map.committedInDrain } } l y
    let closed (sinks : List Sink) : State := { landed sinks with
      doneWrites := s.doneWrites ++ [k'.doneWord l .done 0 .sinkFull] }
    let joined (w : StepWord) (stage : Stage) : State :=
      (closed (ks ++ [⟨x.programAddr, BitVec.ofNat 32 (w.operand 16 4), w.operand 20 2, 0, 0, w.noteFlag⟩])).withLane l { y with
        programAddr := x.programAddr + 32, stage := stage }
    let now (t : State) := exec (.rowCommitEnd l stores) s = .next t
    let hold (n1 : Int) := s.map.holdRowUsed = false ∧ x.options.holdRowValid = true ∧ x.options.holdPermit = true
      ∧ x.holdRow ≤ n1
    let able := s.trigger.armed.isSome = true ∧ s.map.ending = .none ∧ (x.state = .running ∨ x.state = .suspended)
    let goesOn (u : State) : Prop :=
      (∀ k2 rest, c.row < c.last → u.map.sinks = k2 :: rest → now (issueCommit k2 (c.row + 1) c.last u))
        ∧ (c.row < c.last → u.map.sinks = [] → drains → now (starveDrain l (c.row + 1) u))
        ∧ (c.last ≤ c.row → drains → now (endDrain l u))
        ∧ (c.last ≤ c.row → ¬ drains → (∀ r, s.rect.render = some r → ∃ o j, r.job = .patch o j) → now u)
        ∧ (∀ r n1 n, c.last ≤ c.row → ¬ drains → s.rect.render = some r → r.job = .survey n1 n →
            (¬ hold n1 → now u)
              ∧ (hold n1 → able → now (State.withLane { u with map := { u.map with holdRowUsed := true } } l { u.lane l with
                  holdPending := true }))
              ∧ (hold n1 → ¬ able → now { u with map := { u.map with holdRowUsed := true } }))
    (k'.written ≠ k.capacity → goesOn (landed (k' :: ks)))
      ∧ (k'.written = k.capacity → (∀ w, x.stage ≠ .sinkWait w) → goesOn (closed ks))
      ∧ (∀ w, k'.written = k.capacity → x.stage = .sinkWait w → ks.length < 8 → x.haltPending = false →
          (x.holdPending = false → goesOn (joined w .fetch)) ∧ (x.holdPending = true → goesOn (joined w .boundary)))
      ∧ ∀ a, OutsideOf c.addr c.bytes.length a →
          ((s.mem.afterStores stores).write c.addr c.bytes).byteAt a = (s.mem.afterStores stores).byteAt a)
    ∧ ∀ (l : LaneId) (s : State) (before after : List LateCommit) (c : Commit) (sinks : List Sink) (stores : Stores),
        s.lateCommits = before ++ ⟨l, c, sinks⟩ :: after → (∀ q ∈ before ++ after, q.lane ≠ l) →
        let n := (s.lane l).counters
        let counted : List Sink := match sinks with
          | k :: ks => { k with written := k.written + 1, firstRow := if k.written = 0 then c.row else k.firstRow } :: ks
          | [] => []
        exec (.rowCommitEnd l stores) s = .next (State.withLane { s with
          mem := (s.mem.afterStores stores).write c.addr c.bytes
          lateCommits := before ++ after
          doneWrites := s.doneWrites ++ counted.map fun k => k.doneWord l .abandoned 0 .clearing } l { s.lane l with
            counters := { n with
              committed := min (2 ^ 32 - 1) (n.committed + 1)
              gaps := if c.gap then min (2 ^ 32 - 1) (n.gaps + 1) else n.gaps } })

/-- What a commit issues (R146, R150): the 32-byte header and the W codes of row n, from the staging area for an open row, zeros
for a gap, into the head sink's next place; the oldest marker whose target is first row, or not above n, is placed, and a MARK that
waited for room joins then and ends DONE (R149). -/
def Obligations.CommitIssued : Prop :=
  ∀ (k : Sink) (n last : Int) (s : State),
    let waits := ∃ l w, s.map.lane = some l ∧ (s.lane l).stage = .markWait w
    let addr := k.addr + BitVec.ofNat 32 (k.written * (32 + s.map.width))
    let place := s.map.staging + BitVec.ofNat 32 ((n % 512).toNat * s.map.width)
    let issued (gap : Bool) (markers : List Marker) (bytes : List Byte) : State := { s with map := { s.map with
      markers := markers, commit := some ⟨n, last, gap, addr, bytes⟩ } }
    let row (r : RowRecord) (label : Word) (flag : Nat) := leInt 4 n ++ leInt 4 r.z ++ le 4 r.seq.toNat ++ le 4 label.toNat
      ++ leInt 4 r.pos ++ le 2 r.counts.glare ++ le 2 r.counts.clip ++ le 2 r.counts.out ++ le 2 r.counts.limited
      ++ le 1 (flag + (if r.derated then 4 else 0) + (if r.slip then 8 else 0)) ++ zeros 3 ++ s.mem.read place s.map.width
    let gapRow (label : Word) (flag : Nat) := leInt 4 n ++ zeros 8 ++ le 4 label.toNat ++ zeros 12 ++ le 1 (flag + 1)
      ++ zeros 3 ++ zeros s.map.width
    let takes (q : Marker) := ∀ t, q.target = some t → t ≤ n
    (∀ r, openRow s.map n = some r →
        (s.map.markers = [] → issueCommit k n last s = issued false [] (row r 0 0))
          ∧ ∀ q qs, s.map.markers = q :: qs →
            (takes q → ¬ waits → issueCommit k n last s = issued false qs (row r q.label 2))
              ∧ (¬ takes q → issueCommit k n last s = issued false (q :: qs) (row r 0 0)))
      ∧ (openRow s.map n = none →
        (s.map.markers = [] → issueCommit k n last s = issued true [] (gapRow 0 0))
          ∧ ∀ q qs, s.map.markers = q :: qs →
            (takes q → ¬ waits → issueCommit k n last s = issued true qs (gapRow q.label 2))
              ∧ (¬ takes q → issueCommit k n last s = issued true (q :: qs) (gapRow 0 0)))
      ∧ ∀ q qs l w, s.map.markers = q :: qs → takes q → s.map.lane = some l → (s.lane l).stage = .markWait w → qs.length < 16 →
          let joined := qs ++ [⟨BitVec.ofNat 32 (w.operand 16 4), s.map.range.map (·.front)⟩]
          let ended (u : State) : State := u.ended l w .done (match s.map.range with
            | some r => leInt 4 r.front ++ zeros 8
            | none => zeros 4 ++ 1 :: zeros 7) .advance
          (∀ r, openRow s.map n = some r → issueCommit k n last s = ended (issued false joined (row r q.label 2)))
            ∧ (openRow s.map n = none → issueCommit k n last s = ended (issued true joined (gapRow q.label 2)))

/-- DRAIN_BEGIN (R148, R152 to R154): with an ending recorded and no frames in hand, the rows F to h are committed, the first into
the head sink; with no sink left for a row the drain is starved: it and the rows above it are discarded and counted. When the rows
are done with the drain ends: markers left are counted and dropped, sinks left close EXCEPTION, partial or unused, and the map
unbinds after their words, or at once when there are none: END ends DONE, or EXCEPTION starved, or the lane whose program ended is
IDLE with SECONDARY, and with ALERT and DRAIN_STARVED when starved; that its record shows IDLE is the model's choice (log 38). -/
def Obligations.DrainBegins : Prop :=
  (∀ (l : LaneId) (s : State) (stores : Stores),
    s.map.lane = some l → s.map.ending ≠ .none → s.map.phase = .surveying → s.map.commit = none → noFramesInHand s l = true →
    let x := s.lane l
    let n := x.counters
    let v : State := { s with mem := s.mem.afterStores stores }
    let begun : State := { v with map := { s.map with phase := .draining } }
    let left := s.map.markers.length
    let alone := s.map.sinks = [] ∧ s.map.faulted = false ∧ s.map.starvedDrain = false ∧ ∀ d ∈ s.doneWrites, d.role ≠ .sinkClose
    let unbound := v.mapUnbound
    let y : Lane := { x with counters := { n with unplaced := min (2 ^ 32 - 1) (n.unplaced + left) } }
    let noRows := s.map.range = none ∨ ∃ r, s.map.range = some r ∧ r.top < r.front
    let now (t : State) := exec (.drainBegin stores) s = .next t
    (∀ r k ks, s.map.range = some r → r.front ≤ r.top → s.map.sinks = k :: ks → now (issueCommit k r.front r.top begun))
      ∧ (∀ r, s.map.range = some r → r.front ≤ r.top → s.map.sinks = [] → now (starveDrain l r.front begun))
      ∧ (noRows → now (endDrain l begun))
      ∧ (∀ w, noRows → alone → s.map.ending = .endTaken → x.stage = .endWait w →
          now ((unbound.withLane l y).ended l w .done (le 4 s.map.committedInDrain ++ le 4 s.map.discardedInDrain ++ le 1 left
            ++ zeros 3) .advance))
      ∧ (noRows → alone → s.map.ending = .programEnded →
          now (raiseStatus l { secondary := true } {} (unbound.withLane l { y with state := .idle })))
      ∧ ∀ r, s.map.range = some r → r.front ≤ r.top → alone →
          let lost := (r.top + 1 - r.front).toNat
          let z : Lane := { y with counters := { y.counters with discarded := min (2 ^ 32 - 1) (n.discarded + lost) } }
          (∀ w, s.map.ending = .endTaken → x.stage = .endWait w → now ((unbound.withLane l z).ended l w .exception
              (le 4 s.map.committedInDrain ++ le 4 lost ++ le 1 left ++ 1 :: zeros 2) .advanceStarved))
            ∧ (s.map.ending = .programEnded → now (raiseStatus l { secondary := true, alert := true } {}
              (unbound.withLane l { z with state := .idle, completion := .drainStarved }))))
    ∧ ∀ (l : LaneId) (u : State),
        let x := u.lane l
        let left := u.map.markers.length
        let closing : State := State.withLane { u with
          doneWrites := u.doneWrites
            ++ u.map.sinks.map fun k => k.doneWord l .exception (if k.written = 0 then 2 else 1) .sinkClose
          map := { u.map with markers := [], sinks := [], phase := .closing, commit := none, unplacedInDrain := left } } l { x with
            counters := { x.counters with unplaced := min (2 ^ 32 - 1) (x.counters.unplaced + left) } }
        let words := u.map.sinks ≠ [] ∨ ∃ d ∈ u.doneWrites, d.role = .sinkClose
        (words → endDrain l u = closing)
          ∧ (¬ words → endDrain l u = endSurveyNow closing)
          ∧ ∀ n r, u.map.range = some r →
              let lost := (r.top + 1 - n).toNat
              starveDrain l n u = endDrain l (State.withLane { u with map := { u.map with
                rows := List.replicate 512 none, range := some ⟨n, n - 1⟩, discardedInDrain := lost, starvedDrain := true } } l
                  { x with counters := { x.counters with discarded := min (2 ^ 32 - 1) (x.counters.discarded + lost) } })

/-- MAP_FAULT (R34, R35, R83, R148, R155, R157) on the open survey, also on a staging write while the sinks of a finished drain
close: the trigger is disarmed, READY frames become DONE and a FILLING one an orphan, requests go, a render of the survey ends,
rows and markers are discarded, and every sink's done word is written: ABANDONED, but for the head sink whose write faulted. The
lane's program ends FAULT with ALERT and PRIMARY: a waiting SINK or MARK, and an EXPOSE before its strobe, ends ABANDONED, a
waiting END ends EXCEPTION, any other step runs on; a DRAINING lane raises ALERT only. With no word to wait for the map unbinds at
once. A fault on a commit that outlived a CLEAR is absorbed. The model's choices: that the record of the ALERT and PRIMARY raise
shows the lane DRAINING with its pending flags dropped, and that of SECONDARY shows it IDLE (log 38), that a lane whose STOP is
taken, its done word still being written, is not DRAINING yet (log 57), the zeros of a SINK or MARK (log 42), a step fetched and
not yet taken that is dropped (log 43), and a staging write that faults after its survey, or after a fault that has ended it (log
23), a staging read's fault at any time of a commit (log 60), and one arbitration of the head after all of it (log 54). -/
def Obligations.MapFaultEndsSurvey : Prop :=
  (∀ (l : LaneId) (s : State) (access : MapAccess) (left : Stores),
      s.map.lane = some l →
      (access = .stagingWrite ∧ ¬ (s.map.phase = .closing ∧ s.map.faulted = true))
        ∨ (s.map.phase ≠ .closing ∧ s.map.commit.isSome = true) →
      let x := s.lane l
      let dropped := s.slots.map fun q => match q.record with
        | some e => if e.kind = .survey ∧ e.lane = l then
            (if q.state = .ready then { q with state := .done } else if q.state = .filling then { q with orphan := true } else q)
          else q
        | none => q
      let rendering : Option Nat := match s.rect.render with
        | some r => match r.job with
          | .survey _ _ => if r.lane = l ∧ r.stopping = false then some r.slot else none
          | .patch _ _ => none
        | none => none
      let words : List DoneWrite := match s.map.sinks with
        | [] => []
        | k :: ks => (if access = .sinkWrite then k.doneWord l .exception 3 .sinkClose else k.doneWord l .abandoned 0 .sinkClose)
            :: ks.map fun q => q.doneWord l .abandoned 0 .sinkClose
      let closing : State := { s with
        mem := s.mem.afterStores left
        trigger := if s.trigger.armed = some l then { s.trigger with armed := none, hw := none, pending := false }
          else s.trigger
        requests := s.requests.filter fun q => !Request.isSurveyOf l q
        slots := match rendering with
          | some i => updateAt Slot.renderEnded i dropped
          | none => dropped
        rect := if rendering.isSome then { s.rect with render := none } else s.rect
        doneWrites := s.doneWrites ++ words
        map := { s.map with
          rows := List.replicate 512 none, range := s.map.range.map fun r => ⟨r.front, r.front - 1⟩, sinks := [], markers := []
          commit := none, phase := .closing, faulted := true } }
      let y : Lane := { x with
        state := .draining, haltPending := false, resumePending := false, holdPending := false, holdPosition := none
        holdPass := false, completion := .fault }
      let ends (t : State) : Prop := exec (.mapFault l access left) s = .next (headArbitrate
        (if words = [] ∧ ∀ d ∈ s.doneWrites, d.role ≠ .sinkClose then endSurveyNow t else t))
      let raised (t : State) : Prop := ends (raiseStatus l { alert := true, primary := true } {} t)
      (x.state = .draining → ends (raiseAlert l (closing.withLane l { x with completion := .fault })))
        ∧ (x.state ≠ .draining →
          (∀ w, x.stage = .sinkWait w ∨ x.stage = .markWait w ∨ x.stage = .exposeWait w →
              raised ((closing.withLane l y).ended l w .abandoned (zeros 12) .advance))
            ∧ (∀ w, x.stage = .endWait w → raised ((closing.withLane l y).ended l w .exception
                (le 4 s.map.committedInDrain ++ le 4 s.map.discardedInDrain ++ le 1 s.map.unplacedInDrain ++ 2 :: zeros 2) .advance))
            ∧ ((∃ w len, x.stage = .tableRead w len) ∨ (∃ w, x.stage = .exposeFlight w ∨ x.stage = .renderWait w)
                ∨ (∃ after, x.stage = .doneWrite after) ∨ x.stage = .rest → raised (closing.withLane l y))
            ∧ (x.stage = .fetch ∨ x.stage = .boundary ∨ x.stage = .blockRead ∨ x.stage = .leftHold
                ∨ (∃ w, x.stage = .tagged w ∨ x.stage = .take w) → raised (closing.withLane l { y with stage := .rest }))))
    ∧ (∀ (l : LaneId) (s : State) (left : Stores), s.map.lane ≠ some l ∨ (s.map.phase = .closing ∧ s.map.faulted = true) →
        exec (.mapFault l .stagingWrite left) s = .next { s with mem := s.mem.afterStores left })
    ∧ ∀ (l : LaneId) (s : State) (before after : List LateCommit) (c : Commit) (sinks : List Sink) (access : MapAccess)
        (left : Stores), s.lateCommits = before ++ ⟨l, c, sinks⟩ :: after → (∀ q ∈ before ++ after, q.lane ≠ l) →
        s.map.lane ≠ some l → access ≠ .stagingWrite →
        exec (.mapFault l access left) s = .next { s with
          mem := s.mem.afterStores left
          lateCommits := before ++ after
          doneWrites := s.doneWrites ++ sinks.map fun k => k.doneWord l .abandoned 0 .clearing }

/-! ## Exposure and supply -/

/-- The levels of an exposure (R55, R56), for the requests and limits that the part accepts: NORMAL uses the request, DERATE the
cap and the stretched time under the ceiling; the light is never above the request, nor above the cap in DERATE; E is the rounded
ratio, 4096 whenever the light is as asked, at most 16383. -/
def Obligations.ExposureLight : Prop :=
  ∀ lReq tReq cap ceiling : Nat, 1 ≤ lReq → lReq ≤ 255 → 20 ≤ tReq → tReq ≤ 10000 → 1 ≤ cap → cap ≤ 255 → 20 ≤ ceiling →
    ceiling ≤ 10000 →
    let n := usedLevels false cap ceiling lReq tReq
    let d := usedLevels true cap ceiling lReq tReq
    let want := stretchedTime lReq tReq d.lUsed
    let e (v : Levels) := compensation lReq tReq v.lUsed v.tUsed
    let factor (v : Levels) := (4096 * lReq * tReq + v.lUsed * v.tUsed / 2) / (v.lUsed * v.tUsed)
    n = ⟨lReq, tReq, false, false⟩ ∧ e n = 4096
      ∧ d.lUsed = min lReq cap ∧ d.lUsed ≤ lReq ∧ d.lUsed ≤ cap ∧ 1 ≤ d.lUsed
      ∧ tReq * lReq ≤ want * d.lUsed ∧ want * d.lUsed < tReq * lReq + d.lUsed
      ∧ d.tUsed = min ceiling want ∧ (d.derated = true ↔ d.lUsed ≠ lReq ∨ d.tUsed ≠ tReq)
      ∧ (d.timeClipped = true ↔ ceiling < want)
      ∧ e d = (if 16383 < factor d then 16383 else factor d) ∧ e d ≤ 16383
      ∧ (d.lUsed * d.tUsed = lReq * tReq → e d = 4096)

/-- A strobe start (R44, R53, R57, R76, R77): the slot is the lowest FREE one, else the DONE one of the lowest sequence number; it
is FILLING with the record of the new exposure, the sequence counter is one higher, the slip flag is taken, the header stands in
memory in R76's layout and no byte but the slot's first 64 has changed. That it stands there at the strobe start, and not only when
its write has ended, is the model's choice (log 17). -/
def Obligations.StrobeStarts : Prop :=
  ∀ (kind : FrameKind) (l : LaneId) (lReq tReq : Nat) (s : State),
    (∀ i, allocate s = some i →
        let derate := decide (s.supply.state = .derate)
        let v := usedLevels derate s.exposure.ledCap s.exposure.timeCeiling lReq tReq
        let r : ExposureRecord := {
          seq := s.exposure.seq + 1, kind := kind, lane := l, p := s.odo.p
          pos := s.odo.p * (s.odo.scale : Int) / 65536, lReq := lReq, lUsed := v.lUsed, tReq := tReq, tUsed := v.tUsed
          e := compensation lReq tReq v.lUsed v.tUsed, derate := derate, derated := v.derated
          timeClipped := v.timeClipped, slip := s.odo.slipFlag }
        let place := s.intake.slotArea + BitVec.ofNat 32 (i * ((64 + 2 * s.intake.ws * s.intake.hs + 4095) / 4096 * 4096))
        let bit (k : Nat) (b : Bool) : Nat := if b then 2 ^ k else 0
        let header : List Byte := le 4 (s.exposure.seq + 1).toNat
          ++ [if kind = .survey then 1 else 2, BitVec.ofNat 8 l.val, if derate then 1 else 0,
            BitVec.ofNat 8 (bit 0 r.derated + bit 1 r.timeClipped + bit 2 r.slip)]
          ++ leInt 4 r.p ++ le 2 tReq ++ le 2 r.tUsed ++ leInt 8 r.pos
          ++ [BitVec.ofNat 8 lReq, BitVec.ofNat 8 r.lUsed] ++ le 2 r.e ++ zeros 36
        strobeStart kind l lReq tReq s = { s with
            slots := s.slots.set i ⟨.filling, some r, none, false, false, false⟩
            exposure := { s.exposure with seq := s.exposure.seq + 1, inFlight := some i, strobe := true, led := v.lUsed }
            intake := { s.intake with phase := .integrating, damaged := false, completion := .none }
            odo := { s.odo with slipFlag := false }
            mem := s.mem.write place header }
          ∧ header.length = 64 ∧ r.flagByte = BitVec.ofNat 8 (bit 0 r.derated + bit 1 r.timeClipped + bit 2 r.slip)
          ∧ (∀ a, OutsideOf place 64 a → (s.mem.write place header).byteAt a = s.mem.byteAt a)
          ∧ i < s.slots.length
          ∧ ((s.slot i).state = .free ∧ (∀ j, j < i → (s.slot j).state ≠ .free)
            ∨ (s.slot i).state = .done ∧ (∀ j, j < s.slots.length → (s.slot j).state ≠ .free)
              ∧ ∀ j, j < s.slots.length → (s.slot j).state = .done → (s.slot i).seqNat ≤ (s.slot j).seqNat))
      ∧ (allocate s = none ↔ ∀ x ∈ s.slots, x.state ≠ .free ∧ x.state ≠ .done)

/-- An evaluation of the survey trigger (R58, R59, R61): not due it changes nothing; due, the first line of R59's table that
applies: HELD and CUTOFF withhold and count, a pending flag coalesces, a free head with a slot and no waiter fires with hw the
present p, and else the flag is set and waits. Head arbitration (R60, R62): the waiters are the trigger with its pending flag set
and every waiting EXPOSE, by class, lane, the trigger first; without a waiter, or with the head busy, no slot or CUTOFF, nothing is
granted; else the first EXPOSE has its strobe start, and a trigger is evaluated afresh: due it fires, on a HELD lane it is
withheld, not due its flag clears, and the next waiter is reached. -/
def Obligations.TriggerEvaluated : Prop :=
  (∀ s : State,
    (s.trigger.armed = none → evalTrigger s = s)
      ∧ ∀ l, s.trigger.armed = some l →
          let x := s.lane l
          let due := s.trigger.hw = none ∨ ∃ h, s.trigger.hw = some h ∧ h + s.trigger.pitch ≤ s.odo.p
          let waits : State := { s with trigger := { s.trigger with pending := true } }
          let counted (u : State) (n : Counters) : State := u.withLane l { x with counters := n }
          let lowered : State := { s with trigger := { s.trigger with pending := false } }
          (¬ due → evalTrigger s = s)
            ∧ (due → x.state = .held → evalTrigger s = counted lowered { x.counters with
                withheldHeld := min (2 ^ 32 - 1) (x.counters.withheldHeld + 1) })
            ∧ (due → x.state ≠ .held → s.supply.state = .cutoff → evalTrigger s = counted lowered { x.counters with
                withheldSupply := min (2 ^ 32 - 1) (x.counters.withheldSupply + 1) })
            ∧ (due → x.state ≠ .held → s.supply.state ≠ .cutoff → s.trigger.pending = true →
                evalTrigger s = counted s { x.counters with coalesced := min (2 ^ 32 - 1) (x.counters.coalesced + 1) })
            ∧ (due → x.state ≠ .held → s.supply.state ≠ .cutoff → s.trigger.pending = false →
                (s.exposure.inFlight = none → canAllocate s = true → (∀ m w, (s.lane m).stage ≠ .exposeWait w) →
                    evalTrigger s = { strobeStart .survey l s.trigger.lReq s.trigger.tReq s with
                      trigger := { s.trigger with hw := some s.odo.p, pending := false } })
                  ∧ (¬ (s.exposure.inFlight = none ∧ canAllocate s = true) → evalTrigger s = waits)
                  ∧ (∀ m w, (s.lane m).stage = .exposeWait w → evalTrigger s = headArbitrate waits)))
    ∧ ∀ s : State,
        let laneOf (a : Waiter) : LaneId := match a with
          | .survey l => l
          | .expose l => l
        let cls (a : Waiter) := (s.lane (laneOf a)).cls
        let grantable := s.exposure.inFlight = none ∧ (∃ y ∈ s.slots, y.state = .free ∨ y.state = .done) ∧ s.supply.state ≠ .cutoff
        let due := s.trigger.hw = none ∨ ∃ h, s.trigger.hw = some h ∧ h + s.trigger.pitch ≤ s.odo.p
        let lowered : State := { s with trigger := { s.trigger with pending := false } }
        (∀ l, Waiter.survey l ∈ headWaiters s ↔ s.trigger.armed = some l ∧ s.trigger.pending = true)
          ∧ (∀ l, Waiter.expose l ∈ headWaiters s ↔ ∃ w, (s.lane l).stage = .exposeWait w)
          ∧ (headWaiters s).Pairwise (fun a b => cls a < cls b ∨ cls a = cls b
              ∧ (laneOf a < laneOf b ∨ laneOf a = laneOf b ∧ a = .survey (laneOf a) ∧ b = .expose (laneOf a)))
          ∧ (¬ grantable ∨ headWaiters s = [] → headArbitrate s = s)
          ∧ (∀ l w rest, grantable → headWaiters s = .expose l :: rest → (s.lane l).stage = .exposeWait w →
              headArbitrate s = (strobeStart .patch l (w.operand 17 1) (w.operand 18 2) s).atStage l (.exposeFlight w))
          ∧ ∀ l rest, grantable → headWaiters s = .survey l :: rest →
              (due → (s.lane l).state ≠ .held → headArbitrate s = { strobeStart .survey l s.trigger.lReq s.trigger.tReq s with
                  trigger := { s.trigger with hw := some s.odo.p, pending := false } })
                ∧ (due → (s.lane l).state = .held → headArbitrate s = headArbitrate (lowered.withLane l { s.lane l with
                  counters.withheldHeld := min (2 ^ 32 - 1) ((s.lane l).counters.withheldHeld + 1) }))
                ∧ (¬ due → headArbitrate s = headArbitrate lowered)

/-- The supply monitor's table (R64, R65), for thresholds as the settings keep them (Vc + 0.5 V at most Vd): each sample's voltage
moves the state and the count of good samples. -/
def Obligations.SupplyTable : Prop :=
  ∀ (m : Supply) (mv : Nat),
    let vd := 18000 + 500 * m.derateCode
    let vc := 16000 + 500 * m.cutoffCode
    let n := m.sample (bandOf m mv)
    let goes (st : SupplyState) (count : Nat) := n = { m with state := st, good := count }
    vc + 500 ≤ vd →
      (m.state = .normal → (mv < vc → goes .cutoff 0) ∧ (vc ≤ mv → mv < vd → goes .derate 0) ∧ (vd ≤ mv → goes .normal 0))
        ∧ (m.state = .derate → (mv < vc → goes .cutoff 0) ∧ (vc ≤ mv → mv < vd + 500 → goes .derate 0)
            ∧ (vd + 500 ≤ mv → (m.good < 3 → goes .derate (m.good + 1)) ∧ (m.good = 3 → goes .normal 0)))
        ∧ (m.state = .cutoff → (mv < vc + 500 → goes .cutoff 0)
            ∧ (vc + 500 ≤ mv → (m.good < 3 → goes .cutoff (m.good + 1)) ∧ (m.good = 3 → goes .derate 0)))

/-- STROBE_END and SUPPLY_TICK (R52, R64, R66, R67, R73, R75): a strobe end takes a sample, darkens the ring and starts the readout
timeout, or reports damage already decided; a tick samples outside NORMAL only. Leaving CUTOFF is a grant point (at a strobe end
the head is still busy and grants nothing); entering it ends waiting EXPOSEs, lowers and counts the pending flag, and raises ALERT
on the surveying lane, in an order that is the model's choice (log 59). -/
def Obligations.SupplySamples : Prop :=
  (∀ (s : State) (mv : Nat),
      let m := s.supply.sample (bandOf s.supply mv)
      let u : State := { s with supply := m }
      let v : State := { u with exposure := { s.exposure with strobe := false, led := 0 } }
      let ready : Intake := { s.intake with phase := .awaitingStart, timeoutRunning := true }
      let stays := m.state = .cutoff ↔ s.supply.state = .cutoff
      (s.supply.state = .normal → exec (.supplyTick mv) s = .next s)
        ∧ (s.supply.state ≠ .normal → stays → exec (.supplyTick mv) s = .next u)
        ∧ (s.supply.state = .cutoff → m.state ≠ .cutoff → exec (.supplyTick mv) s = .next (headArbitrate u))
        ∧ (s.supply.state = .derate → m.state = .cutoff → exec (.supplyTick mv) s = .next (enterCutoff u))
        ∧ (s.exposure.strobe = true → stays →
            (s.intake.damaged = false → exec (.strobeEnd mv) s = .next { v with intake := ready })
              ∧ (s.intake.damaged = true → exec (.strobeEnd mv) s = .next (reportDamage v)))
        ∧ (s.exposure.strobe = true → s.supply.state ≠ .cutoff → m.state = .cutoff →
            (s.intake.damaged = false → exec (.strobeEnd mv) s = .next { enterCutoff v with intake := ready })
              ∧ (s.intake.damaged = true → exec (.strobeEnd mv) s = .next (reportDamage (enterCutoff v))))
        ∧ (s.exposure.strobe = true → s.supply.state = .cutoff → m.state ≠ .cutoff →
            let t := headArbitrate v
            (t.intake.damaged = false → exec (.strobeEnd mv) s = .next { t with intake := { t.intake with
                phase := .awaitingStart, timeoutRunning := true } })
              ∧ (t.intake.damaged = true → exec (.strobeEnd mv) s = .next (reportDamage t))
              ∧ (s.exposure.inFlight.isSome = true → t = v)))
    ∧ ∀ u : State,
        let t := enterCutoff u
        (∀ l w, (u.lane l).stage = .exposeWait w → (t.lane l).stage = .doneWrite .advance
            ∧ ⟨l, (u.lane l).programAddr, .exception, zeros 8 ++ 1 :: zeros 3, w.noteFlag, .current⟩ ∈ t.doneWrites)
          ∧ (∀ l, u.trigger.armed = some l → u.trigger.pending = true → t.trigger = { u.trigger with pending := false }
              ∧ (t.lane l).counters.withheldSupply = min (2 ^ 32 - 1) ((u.lane l).counters.withheldSupply + 1))
          ∧ (u.trigger.pending = false → t.trigger = u.trigger)
          ∧ (∀ l, u.map.lane = some l → (t.lane l).statusPending = true ∧ (t.lane l).kinds.alert = true
              ∧ (t.lane l).completion = if (u.lane l).completion = .none then .cutoff else (u.lane l).completion)
          ∧ (∀ l, u.map.lane ≠ some l → (t.lane l).completion = (u.lane l).completion ∧ (t.lane l).kinds = (u.lane l).kinds)
          ∧ t.mem = u.mem ∧ t.slots = u.slots ∧ t.exposure = u.exposure ∧ t.intake = u.intake ∧ t.map = u.map

/-! ## Frame intake -/

/-- HEAD_FRAME_START, HEAD_LINE and UNKNOWN_BYTE (R68 to R72). A byte at the start of a token is its type byte; inside a line token
it belongs to that token, whatever it is, and the token is complete with its last byte. Outside RECEIVING a whole token is stray,
but for the frame start awaited. In RECEIVING a passed line is written, lines it jumps over are repaired from the line buffer, a
failed line is repaired, and a second start, a line going back or past the frame damages it. The model's choices: which bytes a
command brings and that a line token's length is that of the source width at its type byte (log 15), that a line stands in memory
with its token (log 17), and that the receiver is RECEIVING still while a frame completes (log 22). -/
def Obligations.HeadTokensTaken : Prop :=
  (∀ (n : Intake) (i y : Nat), lineAddr n i y = n.slotArea
      + BitVec.ofNat 32 (i * ((64 + 2 * n.ws * n.hs + 4095) / 4096 * 4096)) + BitVec.ofNat 32 (64 + 2 * n.ws * y))
    ∧ (∀ pixels, lineBytes pixels = pixels.flatMap fun p => [BitVec.ofNat 8 p, BitVec.ofNat 8 (p / 256)])
    ∧ (∀ (s : State) (n : Nat) (taken : List Byte), s.intake.framing = ⟨n, taken⟩ →
      let stands (f : Framing) : State := { s with intake := { s.intake with framing := f } }
      (n = 0 → exec (.unknownByte 0xF1) s = .next (stands ⟨3 * s.intake.ws / 2 + 4, []⟩)
          ∧ ∀ bytes, bytes.length < 3 * s.intake.ws / 2 + 4 →
            exec (.headLine bytes) s = .next (stands ⟨3 * s.intake.ws / 2 + 4 - bytes.length, bytes.reverse⟩))
        ∧ (1 < n → exec .headFrameStart s = .next (stands ⟨n - 1, 0xF0 :: taken⟩)
          ∧ (∀ outstanding, exec (.headFrameEnd outstanding) s = .next (stands ⟨n - 1, 0xF2 :: taken⟩))
          ∧ ∀ b, exec (.unknownByte b) s = .next (stands ⟨n - 1, b :: taken⟩))
        ∧ (n = 1 → taken.length + 1 = 3 * s.intake.ws / 2 + 4 →
          ∀ b, exec (.unknownByte b) s = exec (.headLine (taken.reverse ++ [b])) (stands ⟨0, []⟩)))
    ∧ ∀ (s : State) (bytes : List Byte), bytes.length = 3 * s.intake.ws / 2 + 4 → s.intake.framing = ⟨0, []⟩ →
    let stray : State := { s with intake := { s.intake with stray := min 65535 (s.intake.stray + 1) } }
    let tok := LineToken.ofBytes bytes
    let e := s.intake.expected
    let repaired (i k : Nat) : Memory := (List.range k).foldl
      (fun m j => m.write (lineAddr s.intake i (e + j)) (lineBytes s.intake.lineBuffer)) s.mem
    (s.intake.phase ≠ .receiving → exec (.headLine bytes) s = .next stray
        ∧ ∀ outstanding, exec (.headFrameEnd outstanding) s = .next stray)
      ∧ (s.intake.phase = .idle ∨ s.intake.phase = .integrating → exec .headFrameStart s = .next stray)
      ∧ (∀ b, b ≠ 0xF0 → b ≠ 0xF1 → b ≠ 0xF2 → exec (.unknownByte b) s = .next stray)
      ∧ (s.intake.phase = .awaitingStart → exec .headFrameStart s = .next { s with intake := { s.intake with
          phase := .receiving, expected := 0, repaired := 0, lineBuffer := List.replicate s.intake.ws 0 } })
      ∧ (s.intake.phase = .receiving → exec .headFrameStart s = .next (reportDamage s))
      ∧ (∀ i, s.intake.phase = .receiving → s.exposure.inFlight = some i → tok.passes = true → e ≤ tok.number →
          tok.number < s.intake.hs → exec (.headLine bytes) s = .next { s with
            mem := (repaired i (tok.number - e)).write (lineAddr s.intake i tok.number) (lineBytes tok.pixels)
            intake := { s.intake with
              expected := tok.number + 1, repaired := s.intake.repaired + (tok.number - e), lineBuffer := tok.pixels } })
      ∧ (s.intake.phase = .receiving → tok.passes = true → tok.number < e ∨ s.intake.hs ≤ tok.number →
          exec (.headLine bytes) s = .next (reportDamage s))
      ∧ (∀ i, s.intake.phase = .receiving → s.exposure.inFlight = some i → tok.passes = false → e < s.intake.hs →
          exec (.headLine bytes) s = .next { s with
            mem := repaired i 1
            intake := { s.intake with expected := e + 1, repaired := s.intake.repaired + 1 } })
      ∧ (s.intake.phase = .receiving → tok.passes = false → s.intake.hs ≤ e →
          exec (.headLine bytes) s = .next (reportDamage s))

/-- A line token as the head sends it is read back whole (R68, R70): its number, every pixel of it, and that it passes; and it has
the length of a line token at its source width. The CRC is R70's, formed bit by bit: from 0xFFFF, each byte's most significant bit
first, the bit that leaves the register added to the bit that arrives, and their sum fed back by x^16 + x^12 + x^5 + 1. A token
passes exactly when it equals the token's last two bytes, the high one first. -/
def Obligations.LineTokenRead : Prop :=
  (∀ bs : List Byte,
      let bits := bs.flatMap fun b => [7, 6, 5, 4, 3, 2, 1, 0].map fun i => b.getLsbD i
      let feedback : BitVec 16 := BitVec.ofNat 16 (2 ^ 12 + 2 ^ 5 + 2 ^ 0)
      let shifted (c : BitVec 16) (bit : Bool) := if c.getLsbD 15 != bit then (c <<< 1) ^^^ feedback else c <<< 1
      crc16 bs = bits.foldl shifted 0xFFFF#16)
    ∧ (∀ (bs : List Byte) (high low : Byte),
      (LineToken.ofBytes (bs ++ [high, low])).passes = true ↔ (crc16 bs).toNat = 256 * high.toNat + low.toNat)
    ∧ ∀ (n : Nat) (pixels : List Nat), n < 65536 → pixels.length % 2 = 0 → (∀ p ∈ pixels, p < 4096) →
    LineToken.ofBytes (goodLine n pixels) = ⟨n, pixels, true⟩ ∧ (goodLine n pixels).length = lineTokenLength pixels.length

/-- HEAD_FRAME_END, SLOT_LINE_WRITES_ENDED and FRAME_COMPLETE (R52, R62, R71, R74, R76, R79; R79's orphans with R83). The lines
that lack are repaired; above the repair limit the frame is damaged, else it completes: the header tells so, the exposure is over,
the slot is READY with a render request, or KEPT and bound with the EXPOSE DONE, and the head is granted. That the grant comes
after the slot has left FILLING (log 55), that the repaired lines stand in memory at the frame end token (log 17) and that the
orphan mark clears as the slot leaves FILLING (log 56) are the model's choices. -/
def Obligations.FrameEnds : Prop :=
  (∀ (s : State) (i : Nat) (outstanding : Bool), s.intake.phase = .receiving → s.intake.completion = .none →
      s.intake.framing = ⟨0, []⟩ →
      s.exposure.inFlight = some i →
      let e := s.intake.expected
      let k := s.intake.hs - e
      let v : State := { s with
        mem := (List.range k).foldl (fun m j => m.write (lineAddr s.intake i (e + j)) (lineBytes s.intake.lineBuffer)) s.mem
        intake := { s.intake with expected := e + k, repaired := s.intake.repaired + k } }
      (s.intake.repairLimit < s.intake.repaired + k → exec (.headFrameEnd outstanding) s = .next (reportDamage v))
        ∧ (s.intake.repaired + k ≤ s.intake.repairLimit → exec (.headFrameEnd outstanding) s = .next { v with
            intake := { v.intake with
              timeoutRunning := false, completion := if outstanding then .lineWrites else .headerWrite } }))
    ∧ (∀ s : State, s.intake.completion = .lineWrites →
        exec .slotLineWritesEnded s = .next { s with intake := { s.intake with completion := .headerWrite } })
    ∧ ∀ (s : State) (i : Nat) (r : ExposureRecord), s.intake.completion = .headerWrite → s.exposure.inFlight = some i →
        (s.slot i).record = some r → i < s.slots.length →
        let x := s.slot i
        let v (y : Slot) : State := { s with
          mem := s.mem.write (slotAddr s.intake i + 28) (le 2 s.intake.repaired ++ [1])
          intake := { s.intake with phase := .idle, timeoutRunning := false, damaged := false, completion := .none }
          exposure := { s.exposure with inFlight := none }
          slots := s.slots.set i y }
        let now (t : State) := exec .frameComplete s = .next (headArbitrate t)
        (r.kind = .survey → x.orphan = false →
            now { v { x with state := .ready } with requests := s.requests ++ [.survey r.lane i] })
          ∧ (r.kind = .survey → x.orphan = true → now (v { x with state := .done, orphan := false }))
          ∧ (r.kind = .patch → x.orphan = true → now (v ⟨.free, none, none, false, false, false⟩))
          ∧ ∀ w, r.kind = .patch → x.orphan = false → (s.lane r.lane).stage = .exposeFlight w →
              now ((v { x with state := .kept, binding := some (r.lane, w.tag) }).ended r.lane w .done
                (le 4 r.seq.toNat ++ le 2 s.intake.repaired ++ [r.flagByte] ++ le 1 i ++ zeros 4) .advance)

/-- Damage (R52, R62, R72, R73, R75): the slot is FREE and the exposure over, and the receiver's framing stays as it is; a survey
frame counts as damaged on its lane, the EXPOSE of a patch frame ends EXCEPTION, an orphan tells no lane, and the head is granted,
after the slot has left FILLING (the model's reading, log 55). That the slot's orphan mark and its other marks are clear then is
the model's choice too (log 56). READOUT_TIMEOUT damages the frame and resets the receiver: a token under way is discarded
uncounted. SLOT_WRITE_FAULT damages the frame in flight, also on a write of an earlier frame (the model's choice, log 39); a fault
while the strobe is on is told at its end, one with the receiver IDLE has no effect. -/
def Obligations.DamageReported : Prop :=
  (∀ (s : State) (i : Nat) (r : ExposureRecord), s.exposure.inFlight = some i → (s.slot i).record = some r →
      i < s.slots.length →
      let x := s.lane r.lane
      let v : State := { s with
        intake := { s.intake with phase := .idle, timeoutRunning := false, damaged := false, completion := .none }
        exposure := { s.exposure with inFlight := none }
        slots := s.slots.set i ⟨.free, none, none, false, false, false⟩ }
      ((s.slot i).orphan = true → reportDamage s = headArbitrate v)
        ∧ ((s.slot i).orphan = false → r.kind = .survey → reportDamage s = headArbitrate (v.withLane r.lane { x with
            counters := { x.counters with damaged := min (2 ^ 32 - 1) (x.counters.damaged + 1) } }))
        ∧ ∀ w, (s.slot i).orphan = false → r.kind = .patch → x.stage = .exposeFlight w →
            reportDamage s = headArbitrate (v.ended r.lane w .exception
              (le 4 r.seq.toNat ++ zeros 2 ++ [r.flagByte] ++ 0 :: 2 :: zeros 3) .advance))
    ∧ (∀ s : State, s.intake.timeoutRunning = true →
        exec .readoutTimeout s = .next (reportDamage { s with intake := { s.intake with framing := ⟨0, []⟩ } }))
    ∧ ∀ (s : State) (left : Stores),
        let v : State := { s with mem := s.mem.afterStores left }
        (s.intake.phase = .idle → exec (.slotWriteFault left) s = .next v)
          ∧ (s.intake.phase = .integrating →
              exec (.slotWriteFault left) s = .next { v with intake := { s.intake with damaged := true } })
          ∧ (s.intake.phase = .awaitingStart ∨ s.intake.phase = .receiving →
              exec (.slotWriteFault left) s = .next (reportDamage v))

/-! ## The odometer -/

/-- INPUT_PIN_CHANGE and ACCEPTED_EDGE (R38, R39, R41 to R43, R45, R47): a pin change touches that pin alone; an edge whose timer
runs is accepted and decoded, and a change of p is offered to the trigger. A count moves its wheel by one and p with it when it
leads; past a limit it is dropped; counts too far apart are resynced to p. In PULSE a rising edge of A is one
count in the direction of DIR, and no other edge counts; a wheel that is OFF follows its pair without counting. -/
def Obligations.OdometerInputs : Prop :=
  (∀ (i : Input) (level : Bool) (s : State), ∃ q, exec (.inputPinChange i level) s = .next { s with odo := { s.odo with pins := q } }
      ∧ q.level i = level ∧ ∀ j, j ≠ i → q.level j = s.odo.pins.level j)
    ∧ (∀ (e : Edge) (s : State),
        let accepts (i : Input) := e = .single i ∨ ∃ w, e = .both w ∧ i.wheel = some w
        (∀ i, accepts i → s.odo.pins.level i ≠ s.odo.accepted.level i) →
        let o := acceptEdge e s.odo
        exec (.acceptedEdge e) s
            = .next (if o.p = s.odo.p then { s with odo := o } else evalTrigger { s with odo := o })
          ∧ (∀ i, accepts i → o.accepted.level i = s.odo.pins.level i)
          ∧ (∀ i, ¬ accepts i → o.accepted.level i = s.odo.accepted.level i)
          ∧ (e = .single .dir → o = { s.odo with accepted := o.accepted })
          ∧ ∀ w, e.wheel = some w → o = takePair w { s.odo with accepted := o.accepted })
    ∧ (∀ (w : Wheel) (d : Int) (o : Odometer), d = 1 ∨ d = -1 →
        let c := o.count w + d
        let p := if c = o.p + d then c else o.p
        let u : Odometer := { o.withCount w c with p := p }
        let apart := o.mode1 ≠ .off ∧ o.mode2 ≠ .off ∧ 0 < o.slipLimit ∧ o.slipLimit < (u.w1 - u.w2).natAbs
        (c < -2147483648 ∨ 2147483647 < c → countWheel w d o = { o with saturated := true })
          ∧ (-2147483648 ≤ c → c ≤ 2147483647 → ¬ apart → countWheel w d o = u)
          ∧ (-2147483648 ≤ c → c ≤ 2147483647 → apart → countWheel w d o = { u with
              w1 := p, w2 := p, slipCount := min 65535 (o.slipCount + 1), slipFlag := true })
          ∧ (OdometerLaw o → o.mode1 ≠ .off → o.mode2 = .off → w = .one → p = o.p + d)
          ∧ (OdometerLaw o → o.mode1 = .off → o.mode2 ≠ .off → w = .two → p = o.p + d))
    ∧ (∀ (o : Odometer) (w : Wheel), o.mode w = .off → takePair w o = o.withPair w (o.accepted.pair w))
    ∧ ∀ (o : Odometer) (w : Wheel) (new : Bool × Bool), o.mode w = .pulse →
        (decodeChange o w new = if (o.decoderPair w).1 = false ∧ new.1 = true then (if o.accepted.dir then .up else .down)
          else .nothing)
          ∧ (new = o.accepted.pair w → (o.decoderPair w).1 = false → new.1 = true →
            takePair w o = (countWheel w (if o.accepted.dir then 1 else -1) o).withPair w new)
          ∧ (new = o.accepted.pair w → ¬ ((o.decoderPair w).1 = false ∧ new.1 = true) → takePair w o = o.withPair w new)

/-- The QUAD decoder (R40): one level differing counts in the direction of its transition; both differing counts nothing and adds a
phase error, saturating at 65535; the new pair becomes the decoder pair. DIR plays no part. -/
def Obligations.QuadDecoder : Prop :=
  ∀ (w : Wheel) (o : Odometer), o.mode w = .quad →
    let old := o.decoderPair w
    let new := o.accepted.pair w
    let goes (next : Bool × Bool) (d : Int) := new = next → takePair w o = (countWheel w d o).withPair w new
    (old = (false, false) → goes (true, false) 1 ∧ goes (false, true) (-1))
      ∧ (old = (true, false) → goes (true, true) 1 ∧ goes (false, false) (-1))
      ∧ (old = (true, true) → goes (false, true) 1 ∧ goes (true, false) (-1))
      ∧ (old = (false, true) → goes (false, false) 1 ∧ goes (true, true) (-1))
      ∧ (new.1 ≠ old.1 → new.2 ≠ old.2 → w = .one →
          takePair w o = { o with phase1 := min 65535 (o.phase1 + 1), pair1 := new })
      ∧ (new.1 ≠ old.1 → new.2 ≠ old.2 → w = .two →
          takePair w o = { o with phase2 := min 65535 (o.phase2 + 1), pair2 := new })
      ∧ (takePair w o).decoderPair w = new
      ∧ ∀ b : Bool, decodeChange { o with accepted := { o.accepted with dir := b } } w new = decodeChange o w new

/-! ## Patch work and renders -/

/-- EXPOSE as taken (R62, R63, R82, R164): its tests in order, the kept claims counted as R82 gives; in CUTOFF it ends EXCEPTION;
else it joins the head waiters, which is a grant point: it waits on while the head or a slot lacks, and it is served at once when
the head is free, a slot can be allocated and nobody else waits. With HALT_PENDING it is given up (log 10). -/
def Obligations.ExposeStep : Prop :=
  ∀ (l : LaneId) (w : StepWord) (s : State), Taking s l w 0x10 →
    let x := s.lane l
    let inRange := w.operand 17 1 ≠ 0 ∧ 20 ≤ w.operand 18 2 ∧ w.operand 18 2 ≤ 10000
    let tagUsed := ∃ y ∈ s.slots, y.binding = some (l, w.tag)
    let full := s.intake.slotCount < keptClaims s + 3
    let passes := inRange ∧ ¬ tagUsed ∧ ¬ full
    let waits := (s.took l).atStage l (.exposeWait w)
    let now (t : State) := exec (.expose l) s = .next t
    keptClaims s = s.slots.countP (fun y => decide (y.state = .kept))
        + s.slots.countP (fun y => decide (y.state = .filling ∧ y.orphan = false ∧ y.record.map (·.kind) = some .patch))
        + ([0, 1, 2, 3] : List LaneId).countP (exposeWaiting s)
      ∧ (∀ m, exposeWaiting s m = true ↔ ∃ step, (s.lane m).stage = .exposeWait step)
      ∧ (canAllocate s = true ↔ ∃ y ∈ s.slots, y.state = .free ∨ y.state = .done)
      ∧ (¬ inRange → now ((s.took l).checked l w .operand))
      ∧ (inRange → tagUsed → now ((s.took l).checked l w .tagInUse))
      ∧ (inRange → ¬ tagUsed → full → now ((s.took l).checked l w .keepLimit))
      ∧ (passes → s.supply.state = .cutoff →
          now ((s.took l).ended l w .exception (zeros 8 ++ 1 :: zeros 3) .advance))
      ∧ (passes → s.supply.state ≠ .cutoff → x.haltPending = true → now (endProgram l .halted none { s.took l with
          doneWrites := s.doneWrites ++ [⟨l, x.programAddr, .abandoned, zeros 12, w.noteFlag, .detached⟩] }))
      ∧ (passes → s.supply.state ≠ .cutoff → x.haltPending = false →
          now (headArbitrate waits)
            ∧ (¬ (s.exposure.inFlight = none ∧ canAllocate s = true) → now waits)
            ∧ (s.exposure.inFlight = none → canAllocate s = true → headWaiters s = [] →
              now ((strobeStart .patch l (w.operand 17 1) (w.operand 18 2) waits).atStage l (.exposeFlight w))))

/-- KEEP, RELEASE and RENDER as taken (R80 to R82, R160, R167 to R169). KEEP binds the survey frame RENDERING or DONE of the
highest sequence number; RELEASE unbinds, the slot FREE at once, the head then granted (R62), or when the render that reads it
ends; RENDER, its operands in range and its context complete, puts a patch request in the list. Each refuses by its tests in
order. -/
def Obligations.KeepReleaseRenderSteps : Prop :=
  ∀ (l : LaneId) (w : StepWord) (s : State),
    let used (t : Tag) := ∃ y ∈ s.slots, y.binding = some (l, t)
    let full := s.intake.slotCount < keptClaims s + 3
    let o := w.patchOps
    let g := (s.lane l).context.geometry
    let fits := 1 ≤ o.cols ∧ o.cols ≤ 2048 ∧ 1 ≤ o.rows ∧ o.rows ≤ 2048 ∧ 100 ≤ o.pitch ∧ o.pitch ≤ 10000 ∧ 1 ≤ o.zStart
      ∧ o.zStart ≤ 4000000 ∧ o.dest.toNat % 16 = 0 ∧ o.cols ≤ 16 * o.stride
    let can (i : Nat) := i < s.slots.length ∧ ((s.slot i).state = .rendering ∨ (s.slot i).state = .done)
      ∧ ∃ e, (s.slot i).record = some e ∧ e.kind = .survey
    let best (i : Nat) := can i ∧ ∀ j, can j →
      (s.slot j).seqNat < (s.slot i).seqNat ∨ (s.slot j).seqNat = (s.slot i).seqNat ∧ i ≤ j
    let holds (i : Nat) := i < s.slots.length ∧ (s.slot i).binding = some (l, w.tag)
    let refused (c : Instr) (e : CheckCode) := exec c s = .next ((s.took l).checked l w e)
    let withSlot (i : Nat) (x : Slot) : State := { s.took l with slots := s.slots.set i x }
    (Taking s l w 0x11 →
        ((∀ i, ¬ can i) → refused (.keep l) .nothingToKeep)
          ∧ ∀ i e, best i → (s.slot i).record = some e →
              (used w.tag → refused (.keep l) .tagInUse)
                ∧ (¬ used w.tag → full → refused (.keep l) .keepLimit)
                ∧ (¬ used w.tag → ¬ full → exec (.keep l) s
                    = .next ((withSlot i { s.slot i with state := .kept, binding := some (l, w.tag) }).ended l w .done
                      (le 4 e.seq.toNat ++ leInt 4 e.pos ++ le 1 i ++ le 1 e.lane.val
                        ++ [if (s.slot i).state = .rendering then 1 else 0, 0]) .advance)))
      ∧ (Taking s l w 0x13 →
        (¬ used w.tag → refused (.release l) .tagUnknown)
          ∧ ∀ i, holds i → (∀ j, j < i → ¬ holds j) →
              ((s.slot i).inUse = true → exec (.release l) s
                  = .next ((withSlot i { s.slot i with binding := none, releasePending := true }).ended l w .done
                    (le 4 (s.slot i).seqNat ++ 1 :: zeros 7) .advance))
                ∧ ((s.slot i).inUse = false → exec (.release l) s
                  = .next (headArbitrate ((withSlot i ⟨.free, none, none, false, false, false⟩).ended l w .done
                    (le 4 (s.slot i).seqNat ++ zeros 8) .advance))))
      ∧ (Taking s l w 0x12 →
        (¬ fits → refused (.render l) .operand)
          ∧ (fits → ¬ used o.tag → refused (.render l) .tagUnknown)
          ∧ (fits → used o.tag → (s.lane l).context.complete = false → refused (.render l) .context)
          ∧ (fits → used o.tag → (s.lane l).context.complete = true → g.width ≤ o.k0 → refused (.render l) .operand)
          ∧ (fits → used o.tag → (s.lane l).context.complete = true → o.k0 < g.width → exec (.render l) s
              = .next { (s.took l).atStage l (.renderWait w) with requests := s.requests ++ [.patch l o] }))

/-- RENDER_GRANT and COLUMN_TABLE_END (R80, R98, R102, R127, R136 to R139, R161, R162, R175). The grant goes by class, lane, survey
first, joining order, and with the rectifier idle and a request eligible there is one. A render takes its values then; a survey's
first frame sets F, a later one commits the rows below its window or is skipped for want of sink room, and the forced hold is set
where it applies. A render that CLEAR has stopped ends when its column table is built, a patch render's step ABANDONED with its
totals. Where the slot of a skipped or ended render becomes DONE or FREE the head is granted (R62), in the model before a hold that
waited for the render is reached (log 47). The model's other choices: a survey request also waits while its lane stands where its
hold is due, HOLD_REACHED being a command of its own (R179 and section 11.2), but for a lane that STEP has suspended as it left its
hold, until a render is granted (R161, R184; both log 20), HALT_PENDING does not keep the forced hold off (log 44), and a render
whose window has no row ends at its column table and counts as rendered (log 37). -/
def Obligations.RendersStart : Prop :=
  ∀ (s : State) (stores : Stores),
    let owner (q : Request) : LaneId := match q with
      | .survey l _ => l
      | .patch l _ => l
    let isPatch (q : Request) : Bool := match q with
      | .survey _ _ => false
      | .patch _ _ => true
    let cls (q : Request) := (s.lane (owner q)).cls
    let served (y : Lane) : Lane := { y with stage := if y.stage = .leftHold then .rest else y.stage }
    let rest (q : Request) : State := { s with
      mem := s.mem.afterStores stores, requests := s.requests.filter fun p => decide (p ≠ q), lanes := s.lanes.map served }
    let render (job : RenderJob) (l : LaneId) (i : Nat) (e : ExposureRecord) : Render := {
      job := job, lane := l, slot := i, context := (s.lane l).context, pos := e.pos, e := e.e, seq := e.seq
      derated := e.derated, slip := e.slip, columns := none, writing := none, stopping := false }
    let now (t : State) := exec (.renderGrant stores) s = .next t
    (s.rect.render.isSome = true → nextGrant s = none)
      ∧ (s.rect.render = none → (∃ q ∈ s.requests, requestEligible s q = true) → (nextGrant s).isSome = true)
      ∧ (∀ l t i, boundSlot s l t = some i ↔ i < s.slots.length ∧ (s.slot i).binding = some (l, t)
          ∧ ∀ j, j < i → (s.slot j).binding ≠ some (l, t))
      ∧ (∀ q, nextGrant s = some q → q ∈ s.requests ∧ requestEligible s q = true
          ∧ (∀ p ∈ s.requests, requestEligible s p = true →
              cls q ≤ cls p ∧ (cls p = cls q → owner q ≤ owner p)
                ∧ (owner p = owner q → isPatch q = true → isPatch p = true))
          ∧ ∀ l i, q = .survey l i → (s.requests.filter (Request.isSurveyOf l)).head? = some q)
      ∧ (∀ l o i e, nextGrant s = some (.patch l o) → boundSlot s l o.tag = some i → (s.slot i).record = some e →
          now { rest (.patch l o) with
            slots := s.slots.set i { s.slot i with inUse := true }
            rect := { s.rect with render := some (render (.patch o 0) l i e), totals := {} } })
      ∧ (∀ l i e, nextGrant s = some (.survey l i) → (s.slot i).record = some e → i < s.slots.length →
          let x := served (s.lane l)
          let n0 := windowFirst s.map e.pos
          let n1 := windowLast s.map e.pos
          let room := (s.map.sinks.map fun k => k.capacity - k.written).sum
          let v : State := { rest (.survey l i) with
            slots := s.slots.set i { s.slot i with state := .rendering, inUse := true }
            rect := { s.rect with render := some (render (.survey n1 n0) l i e) } }
          let fed : State := { v with map := { s.map with starving := false } }
          let first (used : Bool) : State := { v with map := { s.map with range := some ⟨n0, n0 - 1⟩, holdRowUsed := used } }
          let skipped : State := headArbitrate (State.withLane { rest (.survey l i) with
            slots := s.slots.set i { s.slot i with state := .done, inUse := false }
            rect := { s.rect with render := none } } l { x with
            counters := { x.counters with starved := min (2 ^ 32 - 1) (x.counters.starved + 1) } })
          let hold := s.map.holdRowUsed = false ∧ x.options.holdRowValid = true ∧ x.options.holdPermit = true
            ∧ x.holdRow ≤ n1
          let able := s.trigger.armed.isSome = true ∧ s.map.ending = .none ∧ (x.state = .running ∨ x.state = .suspended)
          (s.map.range = none → ¬ hold → now (first s.map.holdRowUsed))
            ∧ (s.map.range = none → hold → able → now ((first true).withLane l { x with holdPending := true }))
            ∧ (s.map.range = none → hold → ¬ able → now (first true))
            ∧ (∀ r, s.map.range = some r →
                (n0 ≤ r.front → ¬ hold → now fed)
                  ∧ (n0 ≤ r.front → hold → able → now ({ fed with map := { fed.map with holdRowUsed := true } }.withLane l { x with
                      holdPending := true }))
                  ∧ (n0 ≤ r.front → hold → ¬ able → now { fed with map := { fed.map with holdRowUsed := true } })
                  ∧ (∀ k ks, r.front < n0 → (n0 - r.front).toNat ≤ room → s.map.sinks = k :: ks →
                      now (issueCommit k r.front (n0 - 1) fed))
                  ∧ (room < (n0 - r.front).toNat →
                      (s.map.starving = true → now skipped)
                        ∧ (s.map.starving = false → now (raiseIntermediate l { starved := true } { skipped with
                            map := { skipped.map with starving := true } })))))
      ∧ (∀ p ∈ s.requests,
          let y := s.lane (owner p)
          let due := surveyRenderOf s (owner p) = false
            ∧ (y.state = .running ∧ (y.stage = .boundary ∧ y.holdPending = true ∨ ∃ w, y.stage = .tagged w)
              ∨ y.state = .suspended ∧ y.holdPending = true ∧ y.stage ≠ .leftHold)
          requestEligible s p = true ↔ isPatch p = true ∨ y.state ≠ .held ∧ ¬ due)
      ∧ ∀ r, s.rect.render = some r → r.columns = none →
          let y := s.slot r.slot
          let freed : Slot :=
            if y.state = .rendering then { y with state := .done, inUse := false }
            else if y.state = .kept ∧ y.releasePending = true then ⟨.free, none, none, false, false, false⟩
            else { y with inUse := false }
          let closed : State := { s with slots := s.slots.set r.slot freed, rect := { s.rect with render := none } }
          let finished := if freed.state = .free ∨ freed.state = .done then headArbitrate closed else closed
          let x := finished.lane r.lane
          let t := s.rect.totals
          let empty := ∃ last n, r.job = .survey last n ∧ last < n
          let table := (List.range r.context.geometry.width).map (columnEntry r.context.geometry r.context.pose)
          (r.stopping = false → s.map.commit = none ∨ (∃ o j, r.job = .patch o j) → ¬ empty → exec .columnTableEnd s = .next { s with rect := { s.rect with
              render := some { r with columns := some table } } })
            ∧ (r.slot < s.slots.length →
              (r.stopping = false → s.map.commit = none → empty → exec .columnTableEnd s = .next (finished.withLane r.lane { x with
                  counters := { x.counters with rendered := min (2 ^ 32 - 1) (x.counters.rendered + 1) } }))
                ∧ (r.stopping = true → (∃ last n, r.job = .survey last n) → exec .columnTableEnd s = .next finished)
                ∧ (r.stopping = true → (∃ o j, r.job = .patch o j) → exec .columnTableEnd s = .next { finished with
                  doneWrites := finished.doneWrites ++ [⟨r.lane, (s.lane r.lane).programAddr, .abandoned,
                    le 3 t.glare ++ le 3 t.clip ++ le 3 t.out ++ le 3 t.limited, false, .clearing⟩] }))

/-- ROW_FINISHED, SOURCE_FAULT and PATCH_ROW_WRITE_END (R115, R116, R126, R127, R140, R143, R156, R171 to R175). Each raw value is
as memory holds it at its own read, the command saying which stores came before it (the form is the model's, log 16). A row of the
bound survey is a candidate, another's is dropped; a patch row is written to its destination and counted in the totals; the last
row ends the render; a fault ends it with ALERT. Where the slot of the render that ends becomes DONE or FREE the head is granted
(R62, R80), in the model before a hold that waited for it (log 47). A render that CLEAR has stopped ends with the row in progress,
a survey's row dropped, a patch's written and counted and its step ABANDONED with the totals; a fault in that row or its write is
absorbed. That a survey render stopped in its last row does not count as rendered is the model's reading (log 35), and that the
scratch row and the row counts are those of the row last finished is the model's form (log 58). -/
def Obligations.RowsFinished : Prop :=
  ∀ (s : State) (r : Render), s.rect.render = some r →
    let g := r.context.geometry
    let x := s.lane r.lane
    let results := le 3 s.rect.totals.glare ++ le 3 s.rect.totals.clip ++ le 3 s.rect.totals.out ++ le 3 s.rect.totals.limited
    let y := s.slot r.slot
    let freed : Slot :=
      if y.state = .rendering then { y with state := .done, inUse := false }
      else if y.state = .kept ∧ y.releasePending = true then ⟨.free, none, none, false, false, false⟩
      else { y with inUse := false }
    let finished (u : State) : State :=
      let closed : State := { u with slots := u.slots.set r.slot freed, rect := { u.rect with render := none } }
      if freed.state = .free ∨ freed.state = .done then headArbitrate closed else closed
    let given (u : State) : State := { finished u with
      doneWrites := (finished u).doneWrites ++ [⟨r.lane, x.programAddr, .abandoned, results, false, .clearing⟩] }
    let free := r.stopping = true ∨ s.map.commit = none ∨ ∃ o j, r.job = .patch o j
    (∀ (cols : List Column) (stores during : Stores) (seen : List Nat), r.columns = some cols → r.writing = none →
        free →
        let m := s.mem.afterStores stores
        let raw (j a b : Nat) : Nat := rawPixel (m.afterStores (during.take (seen.getD j 0))) s.intake r.slot a b
        let px := rowPixels r cols raw
        let codes := px.map (Pixel.code g)
        let counts := countPixels px
        let v : State := { s with mem := m.afterStores during, rect := { s.rect with scratch := codes, counts := counts } }
        let now (t : State) := exec (.rowFinished ⟨stores, during, seen⟩) s = .next t
        (∀ o j, r.job = .patch o j → now { v with rect := { v.rect with
            totals := s.rect.totals.plus counts
            render := some { r with writing := some (o.dest + BitVec.ofNat 32 (j * (16 * o.stride)), codes) } } })
          ∧ ∀ last n, r.job = .survey last n →
              let z := n * g.rowPitch - r.pos
              let rr : RowRecord := ⟨n, z + s.map.glareWeight * counts.glare, z, counts, r.seq, r.pos, r.derated, r.slip⟩
              let u := if s.map.lane = some r.lane then takeCandidate rr codes v else v
              (r.stopping = false → n < last → now { u with rect := { v.rect with
                  render := some { r with job := .survey last (n + 1) } } })
                ∧ (r.stopping = false → last ≤ n → r.slot < s.slots.length →
                    let w := (finished u).lane r.lane
                    now ((finished u).withLane r.lane { w with
                      counters := { w.counters with rendered := min (2 ^ 32 - 1) (w.counters.rendered + 1) } }))
                ∧ (r.stopping = true → r.slot < s.slots.length → now (finished v)))
      ∧ (∀ cols, r.columns = some cols → r.writing = none → free →
          rowReadsFrame r cols = true → r.slot < s.slots.length →
          let w := (finished s).lane r.lane
          (∀ last n, r.job = .survey last n → r.stopping = true → exec .sourceFault s = .next (finished s))
            ∧ (∀ o j, r.job = .patch o j → r.stopping = true → exec .sourceFault s = .next (given s))
            ∧ (∀ last n, r.job = .survey last n → r.stopping = false →
                exec .sourceFault s = .next (raiseAlert r.lane ((finished s).withLane r.lane { w with
                  counters := { w.counters with faulted := min (2 ^ 32 - 1) (w.counters.faulted + 1) } })))
            ∧ ∀ o j step, r.job = .patch o j → r.stopping = false → x.stage = .renderWait step →
                exec .sourceFault s = .next ((finished s).ended r.lane step .exception results .advanceAlert))
      ∧ ∀ o j a codes, r.job = .patch o j → r.writing = some (a, codes) →
          let written : State := { s with mem := s.mem.write a codes }
          (r.slot < s.slots.length → r.stopping = true → exec (.patchRowWriteEnd .landed) s = .next (given written)
              ∧ ∀ left, exec (.patchRowWriteEnd (.faulted left)) s = .next (given { s with mem := s.mem.afterStores left }))
            ∧ (r.stopping = false → j + 1 < o.rows → exec (.patchRowWriteEnd .landed) s = .next { written with rect := { s.rect with
              render := some { r with writing := none, job := .patch o (j + 1) } } })
            ∧ ∀ w, r.stopping = false → r.slot < s.slots.length → x.stage = .renderWait w →
                (o.rows ≤ j + 1 → exec (.patchRowWriteEnd .landed) s
                    = .next ((finished written).ended r.lane w .done results .advance))
                  ∧ ∀ left, exec (.patchRowWriteEnd (.faulted left)) s
                    = .next ((finished { s with mem := s.mem.afterStores left }).ended r.lane w .exception results .advanceAlert)

/-- The pixel arithmetic (R99 to R111, R113 to R115, R117 to R126), by its formulas over all inputs: floors of square roots; the
sine table's symmetries and R100's own entries; the column table's angle, vector and radial distance; the lens index ratio, which
stays within the table, and the interpolation between its neighbours; the source position, rounded ties away from zero; the field
test; the raw pixel in memory; glare membership; the sample; the wall distance; which pixels a row has, in order, each with its
depth; the gain chain, the clamps of gain and level, and the code that each outcome puts out; the row counts, and their sums. -/
def Obligations.PixelArithmetic : Prop :=
  (∀ x, x < 2 ^ 64 → isqrt x * isqrt x ≤ x ∧ x < (isqrt x + 1) * (isqrt x + 1))
    ∧ (sine 0 = 0 ∧ sine 1 = 50 ∧ sine 256 = 12539 ∧ sine 512 = 23170 ∧ sine 768 = 30273 ∧ sine 1024 = 32767
      ∧ (∀ n, n ≤ 2048 → sine (2048 - n) = sine n) ∧ (∀ n, 1 ≤ n → n ≤ 4095 → sine (4096 - n) = -sine n)
      ∧ ∀ n, cosine n = sine ((n + 1024) % 4096))
    ∧ (∀ width roll k, columnAngle width roll k < 4096)
    ∧ (∀ (g : Geometry) (q : Pose) (k : Nat),
        let c := columnEntry g q k
        let square := c.dx * c.dx + c.dy * c.dy
        (c.angle : Int) = ((k * (4096 / g.width) : Nat) - (q.roll : Int)) % 4096
          ∧ c.dx = (g.radius * sine c.angle + 16384) / 32768 - q.ex ∧ c.dy = (g.radius * cosine c.angle + 16384) / 32768 - q.ey
          ∧ (square < 2 ^ 64 → 0 ≤ c.rho ∧ c.rho * c.rho ≤ square ∧ square < (c.rho + 1) * (c.rho + 1)))
    ∧ (∀ rho z : Int, 0 ≤ rho → 1 ≤ z →
        (lensRatio rho z : Int) = rho * 65536 / (rho + z) ∧ lensRatio rho z / 256 ≤ 255)
    ∧ (∀ a b f, interpolate a b f = (a : Int) + (((b : Int) - a) * f + 128) / 256
        ∧ (f < 256 → ((min a b : Nat) : Int) ≤ interpolate a b f ∧ interpolate a b f ≤ (max a b : Nat)))
    ∧ (∀ (c : Context) (col : Column) (z : Int),
        let u := lensRatio col.rho z
        let lo := c.lens.getD (u / 256) (0, 0)
        let hi := c.lens.getD (u / 256 + 1) (0, 0)
        let r := interpolate lo.1 hi.1 (u % 256)
        let round (a : Int) : Int :=
          if 0 ≤ a then (2 * a + col.rho) / (2 * col.rho) else -((-2 * a + col.rho) / (2 * col.rho))
        let t := mapPixel c col z
        t.xs = c.geometry.cx + round (r * col.dx) ∧ t.ys = c.geometry.cy - round (r * col.dy)
          ∧ t.gain = interpolate lo.2 hi.2 (u % 256))
    ∧ (∀ (xs ys : Int) (ws hs : Nat),
        let q := neighbourhood xs ys
        16 * q.x0 + q.fx = xs ∧ 0 ≤ q.fx ∧ q.fx ≤ 15 ∧ 16 * q.y0 + q.fy = ys ∧ 0 ≤ q.fy ∧ q.fy ≤ 15
          ∧ (inField q ws hs = true ↔ (0 ≤ xs ∧ xs < 16 * ((ws : Int) - 1)) ∧ 0 ≤ ys ∧ ys < 16 * ((hs : Int) - 1)))
    ∧ (∀ (m : Memory) (n : Intake) (i x y : Nat),
        let a := n.slotArea + BitVec.ofNat 32 (i * ((64 + 2 * n.ws * n.hs + 4095) / 4096 * 4096))
          + BitVec.ofNat 32 (64 + 2 * n.ws * y + 2 * x)
        rawPixel m n i x y = ((m.byteAt a.toNat).toNat + 256 * (m.byteAt (a + 1).toNat).toNat) % 4096)
    ∧ (∀ (set : List Byte) (v : Nat), glareMember set v = true ↔ (set.getD (v / 8) 0).toNat / 2 ^ (v % 8) % 2 = 1)
    ∧ (∀ (r : RawFour) (fx fy : Int),
        bilinear r fx fy
            = ((r.p00 * (16 - fx) + r.p10 * fx) * (16 - fy) + (r.p01 * (16 - fx) + r.p11 * fx) * fy + 128) / 256
          ∧ (0 ≤ fx → fx ≤ 15 → 0 ≤ fy → fy ≤ 15 →
            0 ≤ bilinear r fx fy ∧ bilinear r fx fy ≤ r.largest ∧ bilinear r 0 0 = r.p00))
    ∧ (∀ rho z : Int, rho * rho + z * z < 2 ^ 64 →
        let d := wallDistance rho z
        0 ≤ d ∧ d * d ≤ rho * rho + z * z ∧ rho * rho + z * z < (d + 1) * (d + 1))
    ∧ (∀ (r : Render) (cols : List Column) (raw : Nat → Nat → Nat → Nat),
        let g := r.context.geometry
        let pixel (place k : Nat) (z : Int) := renderPixel r.context r.e raw (4 * place) (cols.getD k ⟨0, 0, 0, 1⟩) k z
        (∀ last n, r.job = .survey last n →
            rowPixels r cols raw = (List.range g.width).map fun k => pixel k k (n * g.rowPitch - r.pos))
          ∧ (∀ o j, r.job = .patch o j →
            rowPixels r cols raw = (List.range o.cols).map fun c => pixel c ((o.k0 + c) % g.width) (o.zStart + j * o.pitch))
          ∧ (rowReadsFrame r cols = true ↔ ∃ p ∈ rowPixels r cols raw, p ≠ .outOfField))
    ∧ (∀ px : List Pixel,
        let limited (p : Pixel) : Bool := match p with
          | .toned _ b _ => b
          | .outOfField => false
          | .glare => false
        let clipped (p : Pixel) : Bool := match p with
          | .toned _ _ b => b
          | .outOfField => false
          | .glare => false
        let n := countPixels px
        n.out = min 65535 (px.count .outOfField) ∧ n.glare = min 65535 (px.count .glare)
          ∧ n.limited = min 65535 (px.countP limited) ∧ n.clip = min 65535 (px.countP clipped))
    ∧ (∀ t n : RowCounts, t.plus n = ⟨min (2 ^ 32 - 1) (t.glare + n.glare), min (2 ^ 32 - 1) (t.clip + n.clip),
        min (2 ^ 32 - 1) (t.out + n.out), min (2 ^ 32 - 1) (t.limited + n.limited)⟩)
    ∧ ∀ (c : Context) (e : Nat) (raw : Nat → Nat → Nat → Nat) (at_ : Nat) (col : Column) (k : Nat) (z : Int),
        let t := mapPixel c col z
        let q := neighbourhood t.xs t.ys
        let r : RawFour := ⟨raw at_ q.x0.toNat q.y0.toNat, raw (at_ + 1) (q.x0.toNat + 1) q.y0.toNat,
          raw (at_ + 2) q.x0.toNat (q.y0.toNat + 1), raw (at_ + 3) (q.x0.toNat + 1) (q.y0.toNat + 1)⟩
        let d := wallDistance col.rho z
        let tangent := (col.dx * sine col.angle + col.dy * cosine col.angle + 16384) / 32768
        let g0 := d * 256 / c.geometry.dRef * d / c.geometry.dRef * d / tangent
        let g1 := (g0 * t.gain + 2048) / 4096
        let g2 := (g1 * (c.shade.getD k 0 : Nat) + 2048) / 4096
        let g3 := (g2 * e + 2048) / 4096
        let g4 := (g3 * c.geometry.baseGain + 2048) / 4096
        let level := (bilinear r q.fx q.fy * min g4 c.geometry.gainLimit + 128) / 256
        let p := renderPixel c e raw at_ col k z
        (inField q c.geometry.ws c.geometry.hs = false → p = .outOfField ∧ p.code c.geometry = c.geometry.outCode)
          ∧ (inField q c.geometry.ws c.geometry.hs = true → glareMember c.glare r.largest = true →
              p = .glare ∧ p.code c.geometry = c.geometry.glareCode)
          ∧ (inField q c.geometry.ws c.geometry.hs = true → glareMember c.glare r.largest = false →
              p = .toned (c.tone.getD (min level 4095).toNat 0) (decide ((c.geometry.gainLimit : Int) < g4))
                  (decide (4095 < level))
                ∧ p.code c.geometry = c.tone.getD (min level 4095).toNat 0)

/-! ## Laws that every step keeps -/

/-- Every step keeps the memory list in its canonical form. -/
def Obligations.MemoryLawKept : Prop :=
  ∀ s t : State, MemoryLaw s → step s = .next t → MemoryLaw t

/-- Every step keeps the laws of the odometer and of the supply monitor (R42, R43, R45, R64, R65). -/
def Obligations.OdometerAndSupplyLawsKept : Prop :=
  ∀ s t : State, OdometerLaw s.odo → SupplyLaw s.supply → step s = .next t → OdometerLaw t.odo ∧ SupplyLaw t.supply

/-- Every step keeps the law of the attention queues (R16): a lane stands in the queue of its class, once, exactly while it is
status pending. -/
def Obligations.AttentionLawKept : Prop :=
  ∀ s t : State, AttentionLaw s → step s = .next t → AttentionLaw t

/-- Every step keeps the laws of the slot table (R78, R82, R158), a settings load coming when the frame path is at rest, as R4 has
it: at most one slot is FILLING, only a KEPT slot is bound, and the kept claims leave two slots. -/
def Obligations.SlotLawKept : Prop :=
  ∀ s t : State, SlotLaw s → (∀ read timers rest, s.pending = .settingsLoadEnd read timers :: rest → QuietForLoad s) →
    step s = .next t → SlotLaw t

/-- Every step keeps the law of step addresses (R23): a lane fetches from multiples of 32. -/
def Obligations.AlignmentLawKept : Prop :=
  ∀ s t : State, AlignmentLaw s → step s = .next t → AlignmentLaw t

/-- Every step keeps the laws of the map's tables and of the survey trigger (R58, R130, R133, R145, R150), and the high-water mark
of an armed trigger moves by a pitch or more, or not at all. -/
def Obligations.MapAndTriggerLawsKept : Prop :=
  ∀ s t : State, MapLaw s.map → TriggerLaw s → step s = .next t →
    MapLaw t.map ∧ TriggerLaw t
      ∧ ∀ h k, s.trigger.hw = some h → t.trigger.hw = some k → k = h ∨ h + s.trigger.pitch ≤ k
end

