-- ==== Sys2Proof/Laws/Four.lean ====
section
/-! SUPPORT. Laws of the collection of four. -/

namespace Sys2Proof

@[simp] theorem Four.get_set_same {α : Type} (q : Four α) (i : LaneId) (x : α) : (q.set i x).get i = x := by
  match i with
  | 0 | 1 | 2 | 3 => rfl

theorem Four.get_set_ne {α : Type} (q : Four α) {i j : LaneId} (x : α) (h : j ≠ i) : (q.set i x).get j = q.get j := by
  match i, j with
  | 0, 0 | 1, 1 | 2, 2 | 3, 3 => exact absurd rfl h
  | 0, 1 | 0, 2 | 0, 3 | 1, 0 | 1, 2 | 1, 3 | 2, 0 | 2, 1 | 2, 3 | 3, 0 | 3, 1 | 3, 2 => rfl

theorem Four.get_set {α : Type} (q : Four α) (i j : LaneId) (x : α) :
    (q.set i x).get j = if j = i then x else q.get j := by
  by_cases h : j = i
  · subst h; simp
  · simp [h, Four.get_set_ne]

@[simp] theorem Four.get_modify_same {α : Type} (q : Four α) (i : LaneId) (f : α → α) :
    (q.modify i f).get i = f (q.get i) := by
  simp [Four.modify]

theorem Four.get_modify_ne {α : Type} (q : Four α) {i j : LaneId} (f : α → α) (h : j ≠ i) :
    (q.modify i f).get j = q.get j := by
  simp [Four.modify, Four.get_set_ne _ _ h]

theorem Four.get_modify {α : Type} (q : Four α) (i j : LaneId) (f : α → α) :
    (q.modify i f).get j = if j = i then f (q.get i) else q.get j := by
  simp [Four.modify, Four.get_set]

@[simp] theorem Four.get_map {α β : Type} (q : Four α) (f : α → β) (i : LaneId) : (q.map f).get i = f (q.get i) := by
  match i with
  | 0 | 1 | 2 | 3 => rfl

@[simp] theorem Four.get_all {α : Type} (x : α) (i : LaneId) : (Four.all x).get i = x := by
  match i with
  | 0 | 1 | 2 | 3 => rfl

theorem Four.ext_get {α : Type} {q r : Four α} (h : ∀ i, q.get i = r.get i) : q = r := by
  have h0 := h 0; have h1 := h 1; have h2 := h 2; have h3 := h 3
  cases q; cases r; simp_all [Four.get]

@[simp] theorem Four.set_set {α : Type} (q : Four α) (i : LaneId) (x y : α) : (q.set i x).set i y = q.set i y := by
  match i with
  | 0 | 1 | 2 | 3 => rfl

/-- Two changes of one entry are one change. -/
@[simp] theorem Four.modify_modify {α : Type} (q : Four α) (i : LaneId) (f g : α → α) :
    (q.modify i f).modify i g = q.modify i (fun x => g (f x)) := by
  simp [Four.modify]

theorem mem_allLanes (l : LaneId) : l ∈ allLanes := by
  match l with
  | 0 | 1 | 2 | 3 => decide

end Sys2Proof
end

