-- ==== Sys2Proof/Laws/State.lean ====
section
/-! SUPPORT. Frames of the plain updates of State: what each leaves as it was, one lemma for each operation. -/

namespace Sys2Proof.Machine

@[simp] theorem State.setLane_frame (s : State) (l : LaneId) (f : Lane → Lane) :
    (s.setLane l f).port = s.port ∧ (s.setLane l f).odo = s.odo ∧ (s.setLane l f).supply = s.supply ∧
    (s.setLane l f).trigger = s.trigger ∧ (s.setLane l f).exposure = s.exposure ∧
    (s.setLane l f).intake = s.intake ∧ (s.setLane l f).slots = s.slots ∧ (s.setLane l f).requests = s.requests ∧
    (s.setLane l f).rect = s.rect ∧ (s.setLane l f).map = s.map ∧ (s.setLane l f).lateCommits = s.lateCommits ∧
    (s.setLane l f).statusWrites = s.statusWrites ∧ (s.setLane l f).doneWrites = s.doneWrites ∧
    (s.setLane l f).mem = s.mem ∧ (s.setLane l f).pending = s.pending :=
  ⟨rfl, rfl, rfl, rfl, rfl, rfl, rfl, rfl, rfl, rfl, rfl, rfl, rfl, rfl, rfl⟩

@[simp] theorem State.setSlot_frame (s : State) (i : Nat) (f : Slot → Slot) :
    (s.setSlot i f).port = s.port ∧ (s.setSlot i f).lanes = s.lanes ∧ (s.setSlot i f).odo = s.odo ∧
    (s.setSlot i f).supply = s.supply ∧ (s.setSlot i f).trigger = s.trigger ∧
    (s.setSlot i f).exposure = s.exposure ∧ (s.setSlot i f).intake = s.intake ∧
    (s.setSlot i f).requests = s.requests ∧ (s.setSlot i f).rect = s.rect ∧ (s.setSlot i f).map = s.map ∧
    (s.setSlot i f).lateCommits = s.lateCommits ∧ (s.setSlot i f).statusWrites = s.statusWrites ∧
    (s.setSlot i f).doneWrites = s.doneWrites ∧ (s.setSlot i f).mem = s.mem ∧
    (s.setSlot i f).pending = s.pending :=
  ⟨rfl, rfl, rfl, rfl, rfl, rfl, rfl, rfl, rfl, rfl, rfl, rfl, rfl, rfl, rfl⟩

@[simp] theorem State.withStores_frame (s : State) (st : Stores) :
    (s.withStores st).port = s.port ∧ (s.withStores st).lanes = s.lanes ∧ (s.withStores st).odo = s.odo ∧
    (s.withStores st).supply = s.supply ∧ (s.withStores st).trigger = s.trigger ∧
    (s.withStores st).exposure = s.exposure ∧ (s.withStores st).intake = s.intake ∧
    (s.withStores st).slots = s.slots ∧ (s.withStores st).requests = s.requests ∧ (s.withStores st).rect = s.rect ∧
    (s.withStores st).map = s.map ∧ (s.withStores st).lateCommits = s.lateCommits ∧
    (s.withStores st).statusWrites = s.statusWrites ∧ (s.withStores st).doneWrites = s.doneWrites ∧
    (s.withStores st).pending = s.pending :=
  ⟨rfl, rfl, rfl, rfl, rfl, rfl, rfl, rfl, rfl, rfl, rfl, rfl, rfl, rfl, rfl⟩

@[simp] theorem State.store_frame (s : State) (a : Word) (bs : List Byte) :
    (s.store a bs).port = s.port ∧ (s.store a bs).lanes = s.lanes ∧ (s.store a bs).odo = s.odo ∧
    (s.store a bs).supply = s.supply ∧ (s.store a bs).trigger = s.trigger ∧ (s.store a bs).exposure = s.exposure ∧
    (s.store a bs).intake = s.intake ∧ (s.store a bs).slots = s.slots ∧ (s.store a bs).requests = s.requests ∧
    (s.store a bs).rect = s.rect ∧ (s.store a bs).map = s.map ∧ (s.store a bs).lateCommits = s.lateCommits ∧
    (s.store a bs).statusWrites = s.statusWrites ∧ (s.store a bs).doneWrites = s.doneWrites ∧
    (s.store a bs).pending = s.pending :=
  ⟨rfl, rfl, rfl, rfl, rfl, rfl, rfl, rfl, rfl, rfl, rfl, rfl, rfl, rfl, rfl⟩

@[simp] theorem State.bump_frame (s : State) (l : LaneId) (f : Counters → Counters) :
    (s.bump l f).port = s.port ∧ (s.bump l f).odo = s.odo ∧ (s.bump l f).supply = s.supply ∧
    (s.bump l f).trigger = s.trigger ∧ (s.bump l f).exposure = s.exposure ∧ (s.bump l f).intake = s.intake ∧
    (s.bump l f).slots = s.slots ∧ (s.bump l f).requests = s.requests ∧ (s.bump l f).rect = s.rect ∧
    (s.bump l f).map = s.map ∧ (s.bump l f).lateCommits = s.lateCommits ∧
    (s.bump l f).statusWrites = s.statusWrites ∧ (s.bump l f).doneWrites = s.doneWrites ∧
    (s.bump l f).mem = s.mem ∧ (s.bump l f).pending = s.pending :=
  ⟨rfl, rfl, rfl, rfl, rfl, rfl, rfl, rfl, rfl, rfl, rfl, rfl, rfl, rfl, rfl⟩

/-! ## Lanes and slots after their own updates -/

@[simp] theorem State.setLane_lanes (s : State) (l : LaneId) (f : Lane → Lane) :
    (s.setLane l f).lanes = s.lanes.modify l f := rfl

@[simp] theorem State.lane_setLane_same (s : State) (l : LaneId) (f : Lane → Lane) :
    (s.setLane l f).lane l = f (s.lane l) := by
  simp [State.lane]

theorem State.lane_setLane_ne (s : State) {l m : LaneId} (f : Lane → Lane) (h : m ≠ l) :
    (s.setLane l f).lane m = s.lane m := by
  simp [State.lane, Four.get_modify_ne _ _ h]

theorem State.lane_setLane (s : State) (l m : LaneId) (f : Lane → Lane) :
    (s.setLane l f).lane m = if m = l then f (s.lane l) else s.lane m := by
  simp [State.lane, Four.get_modify]

@[simp] theorem State.setSlot_slots (s : State) (i : Nat) (f : Slot → Slot) :
    (s.setSlot i f).slots = updateAt f i s.slots := rfl

@[simp] theorem updateAt_length {α : Type} (f : α → α) (i : Nat) (xs : List α) :
    (updateAt f i xs).length = xs.length := by
  induction xs generalizing i with
  | nil => cases i <;> rfl
  | cons x xs ih => cases i <;> simp [updateAt, ih]

theorem updateAt_getElem? {α : Type} (f : α → α) (i j : Nat) (xs : List α) :
    (updateAt f i xs)[j]? = if j = i then xs[j]?.map f else xs[j]? := by
  induction xs generalizing i j with
  | nil => cases i <;> simp [updateAt]
  | cons x xs ih => cases i <;> cases j <;> simp [updateAt, ih]

@[simp] theorem State.bump_lanes (s : State) (l : LaneId) (f : Counters → Counters) :
    (s.bump l f).lanes = s.lanes.modify l fun x => { x with counters := f x.counters } := rfl

@[simp] theorem State.withStores_mem (s : State) (st : Stores) : (s.withStores st).mem = s.mem.afterStores st := rfl

@[simp] theorem State.store_mem (s : State) (a : Word) (bs : List Byte) : (s.store a bs).mem = s.mem.write a bs := rfl

end Sys2Proof.Machine
end

