-- ==== Sys2Proof/Laws/Flags.lean ====
section
/-! SUPPORT. Frames of raising status and issuing done words: what each leaves as it was, one lemma for each operation. -/

namespace Sys2Proof.Machine

@[simp] theorem joinQueue_frame (l : LaneId) (s : State) :
    (joinQueue l s).port.mask = s.port.mask ∧ (joinQueue l s).port.anchor = s.port.anchor ∧
    (joinQueue l s).port.config = s.port.config ∧ (joinQueue l s).port.inspection = s.port.inspection ∧
    (joinQueue l s).lanes = s.lanes ∧ (joinQueue l s).odo = s.odo ∧ (joinQueue l s).supply = s.supply ∧
    (joinQueue l s).trigger = s.trigger ∧ (joinQueue l s).exposure = s.exposure ∧
    (joinQueue l s).intake = s.intake ∧ (joinQueue l s).slots = s.slots ∧ (joinQueue l s).requests = s.requests ∧
    (joinQueue l s).rect = s.rect ∧ (joinQueue l s).map = s.map ∧ (joinQueue l s).lateCommits = s.lateCommits ∧
    (joinQueue l s).statusWrites = s.statusWrites ∧ (joinQueue l s).doneWrites = s.doneWrites ∧
    (joinQueue l s).mem = s.mem ∧ (joinQueue l s).pending = s.pending :=
  ⟨rfl, rfl, rfl, rfl, rfl, rfl, rfl, rfl, rfl, rfl, rfl, rfl, rfl, rfl, rfl, rfl, rfl, rfl, rfl⟩

@[simp] theorem leaveQueue_frame (l : LaneId) (s : State) :
    (leaveQueue l s).port.mask = s.port.mask ∧ (leaveQueue l s).port.anchor = s.port.anchor ∧
    (leaveQueue l s).port.config = s.port.config ∧ (leaveQueue l s).port.inspection = s.port.inspection ∧
    (leaveQueue l s).lanes = s.lanes ∧ (leaveQueue l s).odo = s.odo ∧ (leaveQueue l s).supply = s.supply ∧
    (leaveQueue l s).trigger = s.trigger ∧ (leaveQueue l s).exposure = s.exposure ∧
    (leaveQueue l s).intake = s.intake ∧ (leaveQueue l s).slots = s.slots ∧
    (leaveQueue l s).requests = s.requests ∧ (leaveQueue l s).rect = s.rect ∧ (leaveQueue l s).map = s.map ∧
    (leaveQueue l s).lateCommits = s.lateCommits ∧ (leaveQueue l s).statusWrites = s.statusWrites ∧
    (leaveQueue l s).doneWrites = s.doneWrites ∧ (leaveQueue l s).mem = s.mem ∧
    (leaveQueue l s).pending = s.pending :=
  ⟨rfl, rfl, rfl, rfl, rfl, rfl, rfl, rfl, rfl, rfl, rfl, rfl, rfl, rfl, rfl, rfl, rfl, rfl, rfl⟩

@[simp] theorem startStatusWrite_frame (l : LaneId) (s : State) :
    (startStatusWrite l s).port = s.port ∧ (startStatusWrite l s).lanes = s.lanes ∧
    (startStatusWrite l s).odo = s.odo ∧ (startStatusWrite l s).supply = s.supply ∧
    (startStatusWrite l s).trigger = s.trigger ∧ (startStatusWrite l s).exposure = s.exposure ∧
    (startStatusWrite l s).intake = s.intake ∧ (startStatusWrite l s).slots = s.slots ∧
    (startStatusWrite l s).requests = s.requests ∧ (startStatusWrite l s).rect = s.rect ∧
    (startStatusWrite l s).map = s.map ∧ (startStatusWrite l s).lateCommits = s.lateCommits ∧
    (startStatusWrite l s).doneWrites = s.doneWrites ∧ (startStatusWrite l s).mem = s.mem ∧
    (startStatusWrite l s).pending = s.pending :=
  ⟨rfl, rfl, rfl, rfl, rfl, rfl, rfl, rfl, rfl, rfl, rfl, rfl, rfl, rfl, rfl⟩

@[simp] theorem raiseStatus_frame (l : LaneId) (k : Kinds) (r : Reasons) (s : State) :
    (raiseStatus l k r s).port.mask = s.port.mask ∧ (raiseStatus l k r s).port.anchor = s.port.anchor ∧
    (raiseStatus l k r s).port.config = s.port.config ∧ (raiseStatus l k r s).port.inspection = s.port.inspection ∧
    (raiseStatus l k r s).odo = s.odo ∧ (raiseStatus l k r s).supply = s.supply ∧
    (raiseStatus l k r s).trigger = s.trigger ∧ (raiseStatus l k r s).exposure = s.exposure ∧
    (raiseStatus l k r s).intake = s.intake ∧ (raiseStatus l k r s).slots = s.slots ∧
    (raiseStatus l k r s).requests = s.requests ∧ (raiseStatus l k r s).rect = s.rect ∧
    (raiseStatus l k r s).map = s.map ∧ (raiseStatus l k r s).lateCommits = s.lateCommits ∧
    (raiseStatus l k r s).doneWrites = s.doneWrites ∧ (raiseStatus l k r s).mem = s.mem ∧
    (raiseStatus l k r s).pending = s.pending := by unfold raiseStatus; split <;> simp

@[simp] theorem raiseIntermediate_frame (l : LaneId) (r : Reasons) (s : State) :
    (raiseIntermediate l r s).port.mask = s.port.mask ∧ (raiseIntermediate l r s).port.anchor = s.port.anchor ∧
    (raiseIntermediate l r s).port.config = s.port.config ∧
    (raiseIntermediate l r s).port.inspection = s.port.inspection ∧ (raiseIntermediate l r s).odo = s.odo ∧
    (raiseIntermediate l r s).supply = s.supply ∧ (raiseIntermediate l r s).trigger = s.trigger ∧
    (raiseIntermediate l r s).exposure = s.exposure ∧ (raiseIntermediate l r s).intake = s.intake ∧
    (raiseIntermediate l r s).slots = s.slots ∧ (raiseIntermediate l r s).requests = s.requests ∧
    (raiseIntermediate l r s).rect = s.rect ∧ (raiseIntermediate l r s).map = s.map ∧
    (raiseIntermediate l r s).lateCommits = s.lateCommits ∧ (raiseIntermediate l r s).doneWrites = s.doneWrites ∧
    (raiseIntermediate l r s).mem = s.mem ∧ (raiseIntermediate l r s).pending = s.pending :=
  by simp [raiseIntermediate]

@[simp] theorem raiseAlert_frame (l : LaneId) (s : State) :
    (raiseAlert l s).port.mask = s.port.mask ∧ (raiseAlert l s).port.anchor = s.port.anchor ∧
    (raiseAlert l s).port.config = s.port.config ∧ (raiseAlert l s).port.inspection = s.port.inspection ∧
    (raiseAlert l s).odo = s.odo ∧ (raiseAlert l s).supply = s.supply ∧ (raiseAlert l s).trigger = s.trigger ∧
    (raiseAlert l s).exposure = s.exposure ∧ (raiseAlert l s).intake = s.intake ∧
    (raiseAlert l s).slots = s.slots ∧ (raiseAlert l s).requests = s.requests ∧ (raiseAlert l s).rect = s.rect ∧
    (raiseAlert l s).map = s.map ∧ (raiseAlert l s).lateCommits = s.lateCommits ∧
    (raiseAlert l s).doneWrites = s.doneWrites ∧ (raiseAlert l s).mem = s.mem ∧
    (raiseAlert l s).pending = s.pending := by simp [raiseAlert]

@[simp] theorem issueDone_frame (l : LaneId) (addr : Word) (code : DoneCode) (results : List Byte) (note : Bool) (role : DoneRole) (s : State) :
    (issueDone l addr code results note role s).port = s.port ∧
    (issueDone l addr code results note role s).lanes = s.lanes ∧
    (issueDone l addr code results note role s).odo = s.odo ∧
    (issueDone l addr code results note role s).supply = s.supply ∧
    (issueDone l addr code results note role s).trigger = s.trigger ∧
    (issueDone l addr code results note role s).exposure = s.exposure ∧
    (issueDone l addr code results note role s).intake = s.intake ∧
    (issueDone l addr code results note role s).slots = s.slots ∧
    (issueDone l addr code results note role s).requests = s.requests ∧
    (issueDone l addr code results note role s).rect = s.rect ∧
    (issueDone l addr code results note role s).map = s.map ∧
    (issueDone l addr code results note role s).lateCommits = s.lateCommits ∧
    (issueDone l addr code results note role s).statusWrites = s.statusWrites ∧
    (issueDone l addr code results note role s).mem = s.mem ∧
    (issueDone l addr code results note role s).pending = s.pending :=
  ⟨rfl, rfl, rfl, rfl, rfl, rfl, rfl, rfl, rfl, rfl, rfl, rfl, rfl, rfl, rfl⟩

end Sys2Proof.Machine
end

