-- ==== Sys2Proof/Laws/Lanes.lean ====
section
/-! SUPPORT. Frames of the lane operations: what each leaves as it was, one lemma for each operation. -/

namespace Sys2Proof.Machine

/-- The grant point that a STEP left behind is a matter of the lane's stage alone. -/
@[simp] theorem Lane.grantPast_frame (x : Lane) :
    x.grantPast.state = x.state ∧ x.grantPast.programAddr = x.programAddr ∧ x.grantPast.lastStep = x.lastStep ∧
    x.grantPast.cls = x.cls ∧ x.grantPast.options = x.options ∧ x.grantPast.holdRow = x.holdRow ∧
    x.grantPast.dumpAddr = x.dumpAddr ∧ x.grantPast.haltPending = x.haltPending ∧
    x.grantPast.resumePending = x.resumePending ∧ x.grantPast.holdPending = x.holdPending ∧
    x.grantPast.holdPosition = x.holdPosition ∧ x.grantPast.holdPass = x.holdPass ∧
    x.grantPast.afterJump = x.afterJump ∧ x.grantPast.discarding = x.discarding ∧
    x.grantPast.completion = x.completion ∧ x.grantPast.check = x.check ∧
    x.grantPast.statusPending = x.statusPending ∧ x.grantPast.kinds = x.kinds ∧ x.grantPast.reasons = x.reasons ∧
    x.grantPast.notes = x.notes ∧ x.grantPast.recordSeq = x.recordSeq ∧ x.grantPast.snapSeq = x.snapSeq ∧
    x.grantPast.counters = x.counters ∧ x.grantPast.context = x.context := by simp [Lane.grantPast]

@[simp] theorem Lane.grantPast_stage_ne (x : Lane) : x.grantPast.stage ≠ .leftHold := by
  simp only [Lane.grantPast]; split <;> simp_all

theorem Lane.grantPast_of_ne (x : Lane) (h : x.stage ≠ .leftHold) : x.grantPast = x := by simp [Lane.grantPast, h]

@[simp] theorem disarmTrigger_frame (l : LaneId) (s : State) :
    (disarmTrigger l s).port = s.port ∧ (disarmTrigger l s).lanes = s.lanes ∧ (disarmTrigger l s).odo = s.odo ∧
    (disarmTrigger l s).supply = s.supply ∧ (disarmTrigger l s).exposure = s.exposure ∧
    (disarmTrigger l s).intake = s.intake ∧ (disarmTrigger l s).slots = s.slots ∧
    (disarmTrigger l s).requests = s.requests ∧ (disarmTrigger l s).rect = s.rect ∧
    (disarmTrigger l s).map = s.map ∧ (disarmTrigger l s).lateCommits = s.lateCommits ∧
    (disarmTrigger l s).statusWrites = s.statusWrites ∧ (disarmTrigger l s).doneWrites = s.doneWrites ∧
    (disarmTrigger l s).mem = s.mem ∧ (disarmTrigger l s).pending = s.pending :=
  by unfold disarmTrigger; split <;> simp

@[simp] theorem endProgram_frame (l : LaneId) (c : Completion) (check : Option CheckCode) (s : State) :
    (endProgram l c check s).port.mask = s.port.mask ∧ (endProgram l c check s).port.anchor = s.port.anchor ∧
    (endProgram l c check s).port.config = s.port.config ∧
    (endProgram l c check s).port.inspection = s.port.inspection ∧ (endProgram l c check s).odo = s.odo ∧
    (endProgram l c check s).supply = s.supply ∧ (endProgram l c check s).exposure = s.exposure ∧
    (endProgram l c check s).intake = s.intake ∧ (endProgram l c check s).slots = s.slots ∧
    (endProgram l c check s).requests = s.requests ∧ (endProgram l c check s).rect = s.rect ∧
    (endProgram l c check s).map.lane = s.map.lane ∧ (endProgram l c check s).map.sinks = s.map.sinks ∧
    (endProgram l c check s).map.markers = s.map.markers ∧ (endProgram l c check s).lateCommits = s.lateCommits ∧
    (endProgram l c check s).doneWrites = s.doneWrites ∧ (endProgram l c check s).mem = s.mem ∧
    (endProgram l c check s).pending = s.pending := by unfold endProgram; split <;> simp

@[simp] theorem windDown_frame (l : LaneId) (s : State) :
    (windDown l s).port.mask = s.port.mask ∧ (windDown l s).port.anchor = s.port.anchor ∧
    (windDown l s).port.config = s.port.config ∧ (windDown l s).port.inspection = s.port.inspection ∧
    (windDown l s).odo = s.odo ∧ (windDown l s).supply = s.supply ∧ (windDown l s).trigger = s.trigger ∧
    (windDown l s).exposure = s.exposure ∧ (windDown l s).intake = s.intake ∧ (windDown l s).slots = s.slots ∧
    (windDown l s).requests = s.requests ∧ (windDown l s).rect = s.rect ∧ (windDown l s).map = s.map ∧
    (windDown l s).lateCommits = s.lateCommits ∧ (windDown l s).doneWrites = s.doneWrites ∧
    (windDown l s).mem = s.mem ∧ (windDown l s).pending = s.pending := by unfold windDown; split <;> simp

@[simp] theorem boundary_frame (l : LaneId) (s : State) :
    (boundary l s).port.mask = s.port.mask ∧ (boundary l s).port.anchor = s.port.anchor ∧
    (boundary l s).port.config = s.port.config ∧ (boundary l s).port.inspection = s.port.inspection ∧
    (boundary l s).odo = s.odo ∧ (boundary l s).supply = s.supply ∧ (boundary l s).exposure = s.exposure ∧
    (boundary l s).intake = s.intake ∧ (boundary l s).slots = s.slots ∧ (boundary l s).requests = s.requests ∧
    (boundary l s).rect = s.rect ∧ (boundary l s).map.lane = s.map.lane ∧ (boundary l s).map.sinks = s.map.sinks ∧
    (boundary l s).map.markers = s.map.markers ∧ (boundary l s).lateCommits = s.lateCommits ∧
    (boundary l s).doneWrites = s.doneWrites ∧ (boundary l s).mem = s.mem ∧ (boundary l s).pending = s.pending :=
  by unfold boundary; (repeat' split) <;> simp

@[simp] theorem advance_frame (l : LaneId) (s : State) :
    (advance l s).port.mask = s.port.mask ∧ (advance l s).port.anchor = s.port.anchor ∧
    (advance l s).port.config = s.port.config ∧ (advance l s).port.inspection = s.port.inspection ∧
    (advance l s).odo = s.odo ∧ (advance l s).supply = s.supply ∧ (advance l s).exposure = s.exposure ∧
    (advance l s).intake = s.intake ∧ (advance l s).slots = s.slots ∧ (advance l s).requests = s.requests ∧
    (advance l s).rect = s.rect ∧ (advance l s).map.lane = s.map.lane ∧ (advance l s).map.sinks = s.map.sinks ∧
    (advance l s).map.markers = s.map.markers ∧ (advance l s).lateCommits = s.lateCommits ∧
    (advance l s).doneWrites = s.doneWrites ∧ (advance l s).mem = s.mem ∧ (advance l s).pending = s.pending :=
  by simp [advance]

@[simp] theorem endStep_frame (l : LaneId) (w : StepWord) (code : DoneCode) (results : List Byte) (after : After) (s : State) :
    (endStep l w code results after s).port = s.port ∧ (endStep l w code results after s).odo = s.odo ∧
    (endStep l w code results after s).supply = s.supply ∧ (endStep l w code results after s).trigger = s.trigger ∧
    (endStep l w code results after s).exposure = s.exposure ∧
    (endStep l w code results after s).intake = s.intake ∧ (endStep l w code results after s).slots = s.slots ∧
    (endStep l w code results after s).requests = s.requests ∧ (endStep l w code results after s).rect = s.rect ∧
    (endStep l w code results after s).map = s.map ∧
    (endStep l w code results after s).lateCommits = s.lateCommits ∧
    (endStep l w code results after s).statusWrites = s.statusWrites ∧
    (endStep l w code results after s).mem = s.mem ∧ (endStep l w code results after s).pending = s.pending :=
  ⟨rfl, rfl, rfl, rfl, rfl, rfl, rfl, rfl, rfl, rfl, rfl, rfl, rfl, rfl⟩

@[simp] theorem checkStep_frame (l : LaneId) (w : StepWord) (c : CheckCode) (s : State) :
    (checkStep l w c s).port = s.port ∧ (checkStep l w c s).odo = s.odo ∧ (checkStep l w c s).supply = s.supply ∧
    (checkStep l w c s).trigger = s.trigger ∧ (checkStep l w c s).exposure = s.exposure ∧
    (checkStep l w c s).intake = s.intake ∧ (checkStep l w c s).slots = s.slots ∧
    (checkStep l w c s).requests = s.requests ∧ (checkStep l w c s).rect = s.rect ∧
    (checkStep l w c s).map = s.map ∧ (checkStep l w c s).lateCommits = s.lateCommits ∧
    (checkStep l w c s).statusWrites = s.statusWrites ∧ (checkStep l w c s).mem = s.mem ∧
    (checkStep l w c s).pending = s.pending :=
  ⟨rfl, rfl, rfl, rfl, rfl, rfl, rfl, rfl, rfl, rfl, rfl, rfl, rfl, rfl⟩

@[simp] theorem afterDoneWord_frame (l : LaneId) (after : After) (s : State) :
    (afterDoneWord l after s).port.mask = s.port.mask ∧ (afterDoneWord l after s).port.anchor = s.port.anchor ∧
    (afterDoneWord l after s).port.config = s.port.config ∧
    (afterDoneWord l after s).port.inspection = s.port.inspection ∧ (afterDoneWord l after s).odo = s.odo ∧
    (afterDoneWord l after s).supply = s.supply ∧ (afterDoneWord l after s).exposure = s.exposure ∧
    (afterDoneWord l after s).intake = s.intake ∧ (afterDoneWord l after s).slots = s.slots ∧
    (afterDoneWord l after s).requests = s.requests ∧ (afterDoneWord l after s).rect = s.rect ∧
    (afterDoneWord l after s).map.lane = s.map.lane ∧ (afterDoneWord l after s).map.sinks = s.map.sinks ∧
    (afterDoneWord l after s).map.markers = s.map.markers ∧ (afterDoneWord l after s).lateCommits = s.lateCommits ∧
    (afterDoneWord l after s).doneWrites = s.doneWrites ∧ (afterDoneWord l after s).mem = s.mem ∧
    (afterDoneWord l after s).pending = s.pending := by unfold afterDoneWord; (repeat' split) <;> simp

@[simp] theorem alertAfterDoneWord_frame (l : LaneId) (after : After) (s : State) :
    (alertAfterDoneWord l after s).port.mask = s.port.mask ∧
    (alertAfterDoneWord l after s).port.anchor = s.port.anchor ∧
    (alertAfterDoneWord l after s).port.config = s.port.config ∧
    (alertAfterDoneWord l after s).port.inspection = s.port.inspection ∧
    (alertAfterDoneWord l after s).odo = s.odo ∧ (alertAfterDoneWord l after s).supply = s.supply ∧
    (alertAfterDoneWord l after s).trigger = s.trigger ∧ (alertAfterDoneWord l after s).exposure = s.exposure ∧
    (alertAfterDoneWord l after s).intake = s.intake ∧ (alertAfterDoneWord l after s).slots = s.slots ∧
    (alertAfterDoneWord l after s).requests = s.requests ∧ (alertAfterDoneWord l after s).rect = s.rect ∧
    (alertAfterDoneWord l after s).map = s.map ∧ (alertAfterDoneWord l after s).lateCommits = s.lateCommits ∧
    (alertAfterDoneWord l after s).doneWrites = s.doneWrites ∧ (alertAfterDoneWord l after s).mem = s.mem ∧
    (alertAfterDoneWord l after s).pending = s.pending := by unfold alertAfterDoneWord; split <;> simp

@[simp] theorem withholdAtHold_frame (l : LaneId) (s : State) :
    (withholdAtHold l s).port = s.port ∧ (withholdAtHold l s).odo = s.odo ∧
    (withholdAtHold l s).supply = s.supply ∧ (withholdAtHold l s).exposure = s.exposure ∧
    (withholdAtHold l s).intake = s.intake ∧ (withholdAtHold l s).slots = s.slots ∧
    (withholdAtHold l s).requests = s.requests ∧ (withholdAtHold l s).rect = s.rect ∧
    (withholdAtHold l s).map = s.map ∧ (withholdAtHold l s).lateCommits = s.lateCommits ∧
    (withholdAtHold l s).statusWrites = s.statusWrites ∧ (withholdAtHold l s).doneWrites = s.doneWrites ∧
    (withholdAtHold l s).mem = s.mem ∧ (withholdAtHold l s).pending = s.pending :=
  by unfold withholdAtHold; split <;> simp

@[simp] theorem reachHold_frame (l : LaneId) (pos : HoldPosition) (s : State) :
    (reachHold l pos s).port.mask = s.port.mask ∧ (reachHold l pos s).port.anchor = s.port.anchor ∧
    (reachHold l pos s).port.config = s.port.config ∧ (reachHold l pos s).port.inspection = s.port.inspection ∧
    (reachHold l pos s).odo = s.odo ∧ (reachHold l pos s).supply = s.supply ∧
    (reachHold l pos s).exposure = s.exposure ∧ (reachHold l pos s).intake = s.intake ∧
    (reachHold l pos s).slots = s.slots ∧ (reachHold l pos s).requests = s.requests ∧
    (reachHold l pos s).rect = s.rect ∧ (reachHold l pos s).map = s.map ∧
    (reachHold l pos s).lateCommits = s.lateCommits ∧ (reachHold l pos s).doneWrites = s.doneWrites ∧
    (reachHold l pos s).mem = s.mem ∧ (reachHold l pos s).pending = s.pending := by simp [reachHold]

@[simp] theorem suspendLane_frame (l : LaneId) (s : State) :
    (suspendLane l s).port.mask = s.port.mask ∧ (suspendLane l s).port.anchor = s.port.anchor ∧
    (suspendLane l s).port.config = s.port.config ∧ (suspendLane l s).port.inspection = s.port.inspection ∧
    (suspendLane l s).odo = s.odo ∧ (suspendLane l s).supply = s.supply ∧ (suspendLane l s).exposure = s.exposure ∧
    (suspendLane l s).intake = s.intake ∧ (suspendLane l s).slots = s.slots ∧
    (suspendLane l s).requests = s.requests ∧ (suspendLane l s).rect = s.rect ∧
    (suspendLane l s).map.lane = s.map.lane ∧ (suspendLane l s).map.sinks = s.map.sinks ∧
    (suspendLane l s).map.markers = s.map.markers ∧ (suspendLane l s).lateCommits = s.lateCommits ∧
    (suspendLane l s).doneWrites = s.doneWrites ∧ (suspendLane l s).mem = s.mem ∧
    (suspendLane l s).pending = s.pending := by unfold suspendLane; (repeat' split) <;> simp

@[simp] theorem offerStep_frame (l : LaneId) (w : StepWord) (s : State) :
    (offerStep l w s).port = s.port ∧ (offerStep l w s).odo = s.odo ∧ (offerStep l w s).supply = s.supply ∧
    (offerStep l w s).trigger = s.trigger ∧ (offerStep l w s).exposure = s.exposure ∧
    (offerStep l w s).intake = s.intake ∧ (offerStep l w s).slots = s.slots ∧
    (offerStep l w s).requests = s.requests ∧ (offerStep l w s).rect = s.rect ∧ (offerStep l w s).map = s.map ∧
    (offerStep l w s).lateCommits = s.lateCommits ∧ (offerStep l w s).statusWrites = s.statusWrites ∧
    (offerStep l w s).mem = s.mem ∧ (offerStep l w s).pending = s.pending := by unfold offerStep; split <;> simp

@[simp] theorem examineSuspend_frame (l : LaneId) (w : StepWord) (s : State) :
    (examineSuspend l w s).port.mask = s.port.mask ∧ (examineSuspend l w s).port.anchor = s.port.anchor ∧
    (examineSuspend l w s).port.config = s.port.config ∧
    (examineSuspend l w s).port.inspection = s.port.inspection ∧ (examineSuspend l w s).odo = s.odo ∧
    (examineSuspend l w s).supply = s.supply ∧ (examineSuspend l w s).exposure = s.exposure ∧
    (examineSuspend l w s).intake = s.intake ∧ (examineSuspend l w s).slots = s.slots ∧
    (examineSuspend l w s).requests = s.requests ∧ (examineSuspend l w s).rect = s.rect ∧
    (examineSuspend l w s).map.lane = s.map.lane ∧ (examineSuspend l w s).map.sinks = s.map.sinks ∧
    (examineSuspend l w s).map.markers = s.map.markers ∧ (examineSuspend l w s).lateCommits = s.lateCommits ∧
    (examineSuspend l w s).mem = s.mem ∧ (examineSuspend l w s).pending = s.pending :=
  by unfold examineSuspend; (repeat' split) <;> simp

end Sys2Proof.Machine
end

