-- ==== Sys2Proof/Laws/Exposure.lean ====
section
/-! SUPPORT. Frames of the exposure operations: what each leaves as it was, one lemma for each operation. -/

namespace Sys2Proof.Machine

@[simp] theorem strobeStart_frame (kind : FrameKind) (l : LaneId) (lReq : Nat) (tReq : Nat) (s : State) :
    (strobeStart kind l lReq tReq s).port = s.port ∧ (strobeStart kind l lReq tReq s).lanes = s.lanes ∧
    (strobeStart kind l lReq tReq s).odo.p = s.odo.p ∧ (strobeStart kind l lReq tReq s).odo.w1 = s.odo.w1 ∧
    (strobeStart kind l lReq tReq s).odo.w2 = s.odo.w2 ∧ (strobeStart kind l lReq tReq s).odo.mode1 = s.odo.mode1 ∧
    (strobeStart kind l lReq tReq s).odo.mode2 = s.odo.mode2 ∧ (strobeStart kind l lReq tReq s).supply = s.supply ∧
    (strobeStart kind l lReq tReq s).trigger = s.trigger ∧
    (strobeStart kind l lReq tReq s).intake.slotCount = s.intake.slotCount ∧
    (strobeStart kind l lReq tReq s).intake.ws = s.intake.ws ∧
    (strobeStart kind l lReq tReq s).intake.hs = s.intake.hs ∧
    (strobeStart kind l lReq tReq s).requests = s.requests ∧ (strobeStart kind l lReq tReq s).rect = s.rect ∧
    (strobeStart kind l lReq tReq s).map = s.map ∧ (strobeStart kind l lReq tReq s).lateCommits = s.lateCommits ∧
    (strobeStart kind l lReq tReq s).statusWrites = s.statusWrites ∧
    (strobeStart kind l lReq tReq s).doneWrites = s.doneWrites ∧
    (strobeStart kind l lReq tReq s).pending = s.pending := by unfold strobeStart; split <;> simp

@[simp] theorem fireSurvey_frame (l : LaneId) (s : State) :
    (fireSurvey l s).port = s.port ∧ (fireSurvey l s).lanes = s.lanes ∧ (fireSurvey l s).odo.p = s.odo.p ∧
    (fireSurvey l s).odo.w1 = s.odo.w1 ∧ (fireSurvey l s).odo.w2 = s.odo.w2 ∧
    (fireSurvey l s).odo.mode1 = s.odo.mode1 ∧ (fireSurvey l s).odo.mode2 = s.odo.mode2 ∧
    (fireSurvey l s).supply = s.supply ∧ (fireSurvey l s).intake.slotCount = s.intake.slotCount ∧
    (fireSurvey l s).intake.ws = s.intake.ws ∧ (fireSurvey l s).intake.hs = s.intake.hs ∧
    (fireSurvey l s).requests = s.requests ∧ (fireSurvey l s).rect = s.rect ∧ (fireSurvey l s).map = s.map ∧
    (fireSurvey l s).lateCommits = s.lateCommits ∧ (fireSurvey l s).statusWrites = s.statusWrites ∧
    (fireSurvey l s).doneWrites = s.doneWrites ∧ (fireSurvey l s).pending = s.pending := by simp [fireSurvey]

@[simp] theorem fireExpose_frame (l : LaneId) (s : State) :
    (fireExpose l s).port = s.port ∧ (fireExpose l s).odo.p = s.odo.p ∧ (fireExpose l s).odo.w1 = s.odo.w1 ∧
    (fireExpose l s).odo.w2 = s.odo.w2 ∧ (fireExpose l s).odo.mode1 = s.odo.mode1 ∧
    (fireExpose l s).odo.mode2 = s.odo.mode2 ∧ (fireExpose l s).supply = s.supply ∧
    (fireExpose l s).trigger = s.trigger ∧ (fireExpose l s).intake.slotCount = s.intake.slotCount ∧
    (fireExpose l s).intake.ws = s.intake.ws ∧ (fireExpose l s).intake.hs = s.intake.hs ∧
    (fireExpose l s).requests = s.requests ∧ (fireExpose l s).rect = s.rect ∧ (fireExpose l s).map = s.map ∧
    (fireExpose l s).lateCommits = s.lateCommits ∧ (fireExpose l s).statusWrites = s.statusWrites ∧
    (fireExpose l s).doneWrites = s.doneWrites ∧ (fireExpose l s).pending = s.pending :=
  by unfold fireExpose; split <;> simp

@[simp] theorem withholdHeld_frame (l : LaneId) (s : State) :
    (withholdHeld l s).port = s.port ∧ (withholdHeld l s).odo = s.odo ∧ (withholdHeld l s).supply = s.supply ∧
    (withholdHeld l s).exposure = s.exposure ∧ (withholdHeld l s).intake = s.intake ∧
    (withholdHeld l s).slots = s.slots ∧ (withholdHeld l s).requests = s.requests ∧
    (withholdHeld l s).rect = s.rect ∧ (withholdHeld l s).map = s.map ∧
    (withholdHeld l s).lateCommits = s.lateCommits ∧ (withholdHeld l s).statusWrites = s.statusWrites ∧
    (withholdHeld l s).doneWrites = s.doneWrites ∧ (withholdHeld l s).mem = s.mem ∧
    (withholdHeld l s).pending = s.pending := ⟨rfl, rfl, rfl, rfl, rfl, rfl, rfl, rfl, rfl, rfl, rfl, rfl, rfl, rfl⟩

@[simp] theorem withholdSupply_frame (l : LaneId) (s : State) :
    (withholdSupply l s).port = s.port ∧ (withholdSupply l s).odo = s.odo ∧
    (withholdSupply l s).supply = s.supply ∧ (withholdSupply l s).exposure = s.exposure ∧
    (withholdSupply l s).intake = s.intake ∧ (withholdSupply l s).slots = s.slots ∧
    (withholdSupply l s).requests = s.requests ∧ (withholdSupply l s).rect = s.rect ∧
    (withholdSupply l s).map = s.map ∧ (withholdSupply l s).lateCommits = s.lateCommits ∧
    (withholdSupply l s).statusWrites = s.statusWrites ∧ (withholdSupply l s).doneWrites = s.doneWrites ∧
    (withholdSupply l s).mem = s.mem ∧ (withholdSupply l s).pending = s.pending :=
  ⟨rfl, rfl, rfl, rfl, rfl, rfl, rfl, rfl, rfl, rfl, rfl, rfl, rfl, rfl⟩

@[simp] theorem serveWaiters_frame (ws : List Waiter) (s : State) :
    (serveWaiters ws s).port = s.port ∧ (serveWaiters ws s).odo.p = s.odo.p ∧
    (serveWaiters ws s).odo.w1 = s.odo.w1 ∧ (serveWaiters ws s).odo.w2 = s.odo.w2 ∧
    (serveWaiters ws s).odo.mode1 = s.odo.mode1 ∧ (serveWaiters ws s).odo.mode2 = s.odo.mode2 ∧
    (serveWaiters ws s).supply = s.supply ∧ (serveWaiters ws s).intake.slotCount = s.intake.slotCount ∧
    (serveWaiters ws s).intake.ws = s.intake.ws ∧ (serveWaiters ws s).intake.hs = s.intake.hs ∧
    (serveWaiters ws s).requests = s.requests ∧ (serveWaiters ws s).rect = s.rect ∧
    (serveWaiters ws s).map = s.map ∧ (serveWaiters ws s).lateCommits = s.lateCommits ∧
    (serveWaiters ws s).statusWrites = s.statusWrites ∧ (serveWaiters ws s).doneWrites = s.doneWrites ∧
    (serveWaiters ws s).pending = s.pending :=
  by
  induction ws generalizing s with
  | nil => simp [serveWaiters]
  | cons x xs ih => cases x <;> (unfold serveWaiters; (repeat' split) <;> simp [ih])

@[simp] theorem headArbitrate_frame (s : State) :
    (headArbitrate s).port = s.port ∧ (headArbitrate s).odo.p = s.odo.p ∧ (headArbitrate s).odo.w1 = s.odo.w1 ∧
    (headArbitrate s).odo.w2 = s.odo.w2 ∧ (headArbitrate s).odo.mode1 = s.odo.mode1 ∧
    (headArbitrate s).odo.mode2 = s.odo.mode2 ∧ (headArbitrate s).supply = s.supply ∧
    (headArbitrate s).intake.slotCount = s.intake.slotCount ∧ (headArbitrate s).intake.ws = s.intake.ws ∧
    (headArbitrate s).intake.hs = s.intake.hs ∧ (headArbitrate s).requests = s.requests ∧
    (headArbitrate s).rect = s.rect ∧ (headArbitrate s).map = s.map ∧
    (headArbitrate s).lateCommits = s.lateCommits ∧ (headArbitrate s).statusWrites = s.statusWrites ∧
    (headArbitrate s).doneWrites = s.doneWrites ∧ (headArbitrate s).pending = s.pending :=
  by unfold headArbitrate; split <;> simp

@[simp] theorem evalTrigger_frame (s : State) :
    (evalTrigger s).port = s.port ∧ (evalTrigger s).odo.p = s.odo.p ∧ (evalTrigger s).odo.w1 = s.odo.w1 ∧
    (evalTrigger s).odo.w2 = s.odo.w2 ∧ (evalTrigger s).odo.mode1 = s.odo.mode1 ∧
    (evalTrigger s).odo.mode2 = s.odo.mode2 ∧ (evalTrigger s).supply = s.supply ∧
    (evalTrigger s).intake.slotCount = s.intake.slotCount ∧ (evalTrigger s).intake.ws = s.intake.ws ∧
    (evalTrigger s).intake.hs = s.intake.hs ∧ (evalTrigger s).requests = s.requests ∧
    (evalTrigger s).rect = s.rect ∧ (evalTrigger s).map = s.map ∧ (evalTrigger s).lateCommits = s.lateCommits ∧
    (evalTrigger s).statusWrites = s.statusWrites ∧ (evalTrigger s).doneWrites = s.doneWrites ∧
    (evalTrigger s).pending = s.pending := by unfold evalTrigger; (repeat' split) <;> simp

@[simp] theorem cutoffExpose_frame (l : LaneId) (s : State) :
    (cutoffExpose l s).port = s.port ∧ (cutoffExpose l s).odo = s.odo ∧ (cutoffExpose l s).supply = s.supply ∧
    (cutoffExpose l s).trigger = s.trigger ∧ (cutoffExpose l s).exposure = s.exposure ∧
    (cutoffExpose l s).intake = s.intake ∧ (cutoffExpose l s).slots = s.slots ∧
    (cutoffExpose l s).requests = s.requests ∧ (cutoffExpose l s).rect = s.rect ∧ (cutoffExpose l s).map = s.map ∧
    (cutoffExpose l s).lateCommits = s.lateCommits ∧ (cutoffExpose l s).statusWrites = s.statusWrites ∧
    (cutoffExpose l s).mem = s.mem ∧ (cutoffExpose l s).pending = s.pending :=
  by unfold cutoffExpose; split <;> simp

@[simp] theorem cutoffTrigger_frame (s : State) :
    (cutoffTrigger s).port = s.port ∧ (cutoffTrigger s).odo = s.odo ∧ (cutoffTrigger s).supply = s.supply ∧
    (cutoffTrigger s).exposure = s.exposure ∧ (cutoffTrigger s).intake = s.intake ∧
    (cutoffTrigger s).slots = s.slots ∧ (cutoffTrigger s).requests = s.requests ∧ (cutoffTrigger s).rect = s.rect ∧
    (cutoffTrigger s).map = s.map ∧ (cutoffTrigger s).lateCommits = s.lateCommits ∧
    (cutoffTrigger s).statusWrites = s.statusWrites ∧ (cutoffTrigger s).doneWrites = s.doneWrites ∧
    (cutoffTrigger s).mem = s.mem ∧ (cutoffTrigger s).pending = s.pending :=
  by unfold cutoffTrigger; (repeat' split) <;> simp

@[simp] theorem cutoffAlert_frame (s : State) :
    (cutoffAlert s).port.mask = s.port.mask ∧ (cutoffAlert s).port.anchor = s.port.anchor ∧
    (cutoffAlert s).port.config = s.port.config ∧ (cutoffAlert s).port.inspection = s.port.inspection ∧
    (cutoffAlert s).odo = s.odo ∧ (cutoffAlert s).supply = s.supply ∧ (cutoffAlert s).trigger = s.trigger ∧
    (cutoffAlert s).exposure = s.exposure ∧ (cutoffAlert s).intake = s.intake ∧ (cutoffAlert s).slots = s.slots ∧
    (cutoffAlert s).requests = s.requests ∧ (cutoffAlert s).rect = s.rect ∧ (cutoffAlert s).map = s.map ∧
    (cutoffAlert s).lateCommits = s.lateCommits ∧ (cutoffAlert s).doneWrites = s.doneWrites ∧
    (cutoffAlert s).mem = s.mem ∧ (cutoffAlert s).pending = s.pending := by unfold cutoffAlert; split <;> simp

@[simp] theorem enterCutoff_frame (s : State) :
    (enterCutoff s).port.mask = s.port.mask ∧ (enterCutoff s).port.anchor = s.port.anchor ∧
    (enterCutoff s).port.config = s.port.config ∧ (enterCutoff s).port.inspection = s.port.inspection ∧
    (enterCutoff s).odo = s.odo ∧ (enterCutoff s).supply = s.supply ∧ (enterCutoff s).exposure = s.exposure ∧
    (enterCutoff s).intake = s.intake ∧ (enterCutoff s).slots = s.slots ∧ (enterCutoff s).requests = s.requests ∧
    (enterCutoff s).rect = s.rect ∧ (enterCutoff s).map = s.map ∧ (enterCutoff s).lateCommits = s.lateCommits ∧
    (enterCutoff s).mem = s.mem ∧ (enterCutoff s).pending = s.pending := by simp [enterCutoff]

end Sys2Proof.Machine
end

