-- ==== Sys2Proof/Laws/WallMap.lean ====
section
/-! SUPPORT. Frames of the wall map operations: what each leaves as it was, one lemma for each operation. -/

namespace Sys2Proof.Machine

@[simp] theorem takeCandidate_frame (rr : RowRecord) (codes : List Byte) (s : State) :
    (takeCandidate rr codes s).port = s.port ∧ (takeCandidate rr codes s).lanes = s.lanes ∧
    (takeCandidate rr codes s).odo = s.odo ∧ (takeCandidate rr codes s).supply = s.supply ∧
    (takeCandidate rr codes s).trigger = s.trigger ∧ (takeCandidate rr codes s).exposure = s.exposure ∧
    (takeCandidate rr codes s).intake = s.intake ∧ (takeCandidate rr codes s).slots = s.slots ∧
    (takeCandidate rr codes s).requests = s.requests ∧ (takeCandidate rr codes s).rect = s.rect ∧
    (takeCandidate rr codes s).lateCommits = s.lateCommits ∧
    (takeCandidate rr codes s).statusWrites = s.statusWrites ∧
    (takeCandidate rr codes s).doneWrites = s.doneWrites ∧ (takeCandidate rr codes s).pending = s.pending :=
  by unfold takeCandidate; split <;> simp

@[simp] theorem joinSink_frame (l : LaneId) (w : StepWord) (s : State) :
    (joinSink l w s).port.mask = s.port.mask ∧ (joinSink l w s).port.anchor = s.port.anchor ∧
    (joinSink l w s).port.config = s.port.config ∧ (joinSink l w s).port.inspection = s.port.inspection ∧
    (joinSink l w s).odo = s.odo ∧ (joinSink l w s).supply = s.supply ∧ (joinSink l w s).exposure = s.exposure ∧
    (joinSink l w s).intake = s.intake ∧ (joinSink l w s).slots = s.slots ∧
    (joinSink l w s).requests = s.requests ∧ (joinSink l w s).rect = s.rect ∧
    (joinSink l w s).map.lane = s.map.lane ∧ (joinSink l w s).map.markers = s.map.markers ∧
    (joinSink l w s).lateCommits = s.lateCommits ∧ (joinSink l w s).doneWrites = s.doneWrites ∧
    (joinSink l w s).mem = s.mem ∧ (joinSink l w s).pending = s.pending := by simp [joinSink]

@[simp] theorem closeSink_frame (l : LaneId) (k : Sink) (code : DoneCode) (reason : Nat) (role : DoneRole) (s : State) :
    (closeSink l k code reason role s).port = s.port ∧ (closeSink l k code reason role s).lanes = s.lanes ∧
    (closeSink l k code reason role s).odo = s.odo ∧ (closeSink l k code reason role s).supply = s.supply ∧
    (closeSink l k code reason role s).trigger = s.trigger ∧
    (closeSink l k code reason role s).exposure = s.exposure ∧
    (closeSink l k code reason role s).intake = s.intake ∧ (closeSink l k code reason role s).slots = s.slots ∧
    (closeSink l k code reason role s).requests = s.requests ∧ (closeSink l k code reason role s).rect = s.rect ∧
    (closeSink l k code reason role s).map = s.map ∧
    (closeSink l k code reason role s).lateCommits = s.lateCommits ∧
    (closeSink l k code reason role s).statusWrites = s.statusWrites ∧
    (closeSink l k code reason role s).mem = s.mem ∧ (closeSink l k code reason role s).pending = s.pending :=
  ⟨rfl, rfl, rfl, rfl, rfl, rfl, rfl, rfl, rfl, rfl, rfl, rfl, rfl, rfl, rfl⟩

@[simp] theorem closeAbandoned_frame (l : LaneId) (role : DoneRole) (ks : List Sink) (s : State) :
    (closeAbandoned l role ks s).port = s.port ∧ (closeAbandoned l role ks s).lanes = s.lanes ∧
    (closeAbandoned l role ks s).odo = s.odo ∧ (closeAbandoned l role ks s).supply = s.supply ∧
    (closeAbandoned l role ks s).trigger = s.trigger ∧ (closeAbandoned l role ks s).exposure = s.exposure ∧
    (closeAbandoned l role ks s).intake = s.intake ∧ (closeAbandoned l role ks s).slots = s.slots ∧
    (closeAbandoned l role ks s).requests = s.requests ∧ (closeAbandoned l role ks s).rect = s.rect ∧
    (closeAbandoned l role ks s).map = s.map ∧ (closeAbandoned l role ks s).lateCommits = s.lateCommits ∧
    (closeAbandoned l role ks s).statusWrites = s.statusWrites ∧ (closeAbandoned l role ks s).mem = s.mem ∧
    (closeAbandoned l role ks s).pending = s.pending :=
  by
  induction ks generalizing s with
  | nil => simp [closeAbandoned]
  | cons x xs ih => simp [closeAbandoned, ih]

@[simp] theorem closeLeft_frame (l : LaneId) (ks : List Sink) (s : State) :
    (closeLeft l ks s).port = s.port ∧ (closeLeft l ks s).lanes = s.lanes ∧ (closeLeft l ks s).odo = s.odo ∧
    (closeLeft l ks s).supply = s.supply ∧ (closeLeft l ks s).trigger = s.trigger ∧
    (closeLeft l ks s).exposure = s.exposure ∧ (closeLeft l ks s).intake = s.intake ∧
    (closeLeft l ks s).slots = s.slots ∧ (closeLeft l ks s).requests = s.requests ∧
    (closeLeft l ks s).rect = s.rect ∧ (closeLeft l ks s).map = s.map ∧
    (closeLeft l ks s).lateCommits = s.lateCommits ∧ (closeLeft l ks s).statusWrites = s.statusWrites ∧
    (closeLeft l ks s).mem = s.mem ∧ (closeLeft l ks s).pending = s.pending :=
  by
  induction ks generalizing s with
  | nil => simp [closeLeft]
  | cons x xs ih => simp [closeLeft, ih]

@[simp] theorem waitingSinkJoins_frame (s : State) :
    (waitingSinkJoins s).port.mask = s.port.mask ∧ (waitingSinkJoins s).port.anchor = s.port.anchor ∧
    (waitingSinkJoins s).port.config = s.port.config ∧ (waitingSinkJoins s).port.inspection = s.port.inspection ∧
    (waitingSinkJoins s).odo = s.odo ∧ (waitingSinkJoins s).supply = s.supply ∧
    (waitingSinkJoins s).exposure = s.exposure ∧ (waitingSinkJoins s).intake = s.intake ∧
    (waitingSinkJoins s).slots = s.slots ∧ (waitingSinkJoins s).requests = s.requests ∧
    (waitingSinkJoins s).rect = s.rect ∧ (waitingSinkJoins s).map.lane = s.map.lane ∧
    (waitingSinkJoins s).map.markers = s.map.markers ∧ (waitingSinkJoins s).lateCommits = s.lateCommits ∧
    (waitingSinkJoins s).doneWrites = s.doneWrites ∧ (waitingSinkJoins s).mem = s.mem ∧
    (waitingSinkJoins s).pending = s.pending := by unfold waitingSinkJoins; (repeat' split) <;> simp

@[simp] theorem closeFull_frame (l : LaneId) (s : State) :
    (closeFull l s).port.mask = s.port.mask ∧ (closeFull l s).port.anchor = s.port.anchor ∧
    (closeFull l s).port.config = s.port.config ∧ (closeFull l s).port.inspection = s.port.inspection ∧
    (closeFull l s).odo = s.odo ∧ (closeFull l s).supply = s.supply ∧ (closeFull l s).exposure = s.exposure ∧
    (closeFull l s).intake = s.intake ∧ (closeFull l s).slots = s.slots ∧ (closeFull l s).requests = s.requests ∧
    (closeFull l s).rect = s.rect ∧ (closeFull l s).map.lane = s.map.lane ∧
    (closeFull l s).map.markers = s.map.markers ∧ (closeFull l s).lateCommits = s.lateCommits ∧
    (closeFull l s).mem = s.mem ∧ (closeFull l s).pending = s.pending :=
  by unfold closeFull; (repeat' split) <;> simp

@[simp] theorem joinMark_frame (l : LaneId) (w : StepWord) (s : State) :
    (joinMark l w s).port = s.port ∧ (joinMark l w s).odo = s.odo ∧ (joinMark l w s).supply = s.supply ∧
    (joinMark l w s).trigger = s.trigger ∧ (joinMark l w s).exposure = s.exposure ∧
    (joinMark l w s).intake = s.intake ∧ (joinMark l w s).slots = s.slots ∧
    (joinMark l w s).requests = s.requests ∧ (joinMark l w s).rect = s.rect ∧
    (joinMark l w s).map.lane = s.map.lane ∧ (joinMark l w s).map.sinks = s.map.sinks ∧
    (joinMark l w s).lateCommits = s.lateCommits ∧ (joinMark l w s).statusWrites = s.statusWrites ∧
    (joinMark l w s).mem = s.mem ∧ (joinMark l w s).pending = s.pending :=
  ⟨rfl, rfl, rfl, rfl, rfl, rfl, rfl, rfl, rfl, rfl, rfl, rfl, rfl, rfl, rfl⟩

@[simp] theorem waitingMarkJoins_frame (s : State) :
    (waitingMarkJoins s).port = s.port ∧ (waitingMarkJoins s).odo = s.odo ∧
    (waitingMarkJoins s).supply = s.supply ∧ (waitingMarkJoins s).trigger = s.trigger ∧
    (waitingMarkJoins s).exposure = s.exposure ∧ (waitingMarkJoins s).intake = s.intake ∧
    (waitingMarkJoins s).slots = s.slots ∧ (waitingMarkJoins s).requests = s.requests ∧
    (waitingMarkJoins s).rect = s.rect ∧ (waitingMarkJoins s).map.lane = s.map.lane ∧
    (waitingMarkJoins s).map.sinks = s.map.sinks ∧ (waitingMarkJoins s).lateCommits = s.lateCommits ∧
    (waitingMarkJoins s).statusWrites = s.statusWrites ∧ (waitingMarkJoins s).mem = s.mem ∧
    (waitingMarkJoins s).pending = s.pending := by unfold waitingMarkJoins; (repeat' split) <;> simp

@[simp] theorem placeMarker_frame (n : Int) (s : State) :
    (placeMarker n s).port = s.port ∧ (placeMarker n s).odo = s.odo ∧ (placeMarker n s).supply = s.supply ∧
    (placeMarker n s).trigger = s.trigger ∧ (placeMarker n s).exposure = s.exposure ∧
    (placeMarker n s).intake = s.intake ∧ (placeMarker n s).slots = s.slots ∧
    (placeMarker n s).requests = s.requests ∧ (placeMarker n s).rect = s.rect ∧
    (placeMarker n s).map.lane = s.map.lane ∧ (placeMarker n s).map.sinks = s.map.sinks ∧
    (placeMarker n s).lateCommits = s.lateCommits ∧ (placeMarker n s).statusWrites = s.statusWrites ∧
    (placeMarker n s).mem = s.mem ∧ (placeMarker n s).pending = s.pending := by unfold placeMarker; split <;> simp

@[simp] theorem issueCommit_frame (k : Sink) (n : Int) (last : Int) (s : State) :
    (issueCommit k n last s).port = s.port ∧ (issueCommit k n last s).odo = s.odo ∧
    (issueCommit k n last s).supply = s.supply ∧ (issueCommit k n last s).trigger = s.trigger ∧
    (issueCommit k n last s).exposure = s.exposure ∧ (issueCommit k n last s).intake = s.intake ∧
    (issueCommit k n last s).slots = s.slots ∧ (issueCommit k n last s).requests = s.requests ∧
    (issueCommit k n last s).rect = s.rect ∧ (issueCommit k n last s).map.lane = s.map.lane ∧
    (issueCommit k n last s).map.sinks = s.map.sinks ∧ (issueCommit k n last s).lateCommits = s.lateCommits ∧
    (issueCommit k n last s).statusWrites = s.statusWrites ∧ (issueCommit k n last s).mem = s.mem ∧
    (issueCommit k n last s).pending = s.pending := by simp [issueCommit]

@[simp] theorem landCommit_frame (l : LaneId) (c : Commit) (s : State) :
    (landCommit l c s).port = s.port ∧ (landCommit l c s).odo = s.odo ∧ (landCommit l c s).supply = s.supply ∧
    (landCommit l c s).trigger = s.trigger ∧ (landCommit l c s).exposure = s.exposure ∧
    (landCommit l c s).intake = s.intake ∧ (landCommit l c s).slots = s.slots ∧
    (landCommit l c s).requests = s.requests ∧ (landCommit l c s).rect = s.rect ∧
    (landCommit l c s).map.lane = s.map.lane ∧ (landCommit l c s).map.markers = s.map.markers ∧
    (landCommit l c s).lateCommits = s.lateCommits ∧ (landCommit l c s).statusWrites = s.statusWrites ∧
    (landCommit l c s).doneWrites = s.doneWrites ∧ (landCommit l c s).pending = s.pending :=
  ⟨rfl, rfl, rfl, rfl, rfl, rfl, rfl, rfl, rfl, rfl, rfl, rfl, rfl, rfl, rfl⟩

@[simp] theorem finishEnd_frame (l : LaneId) (m : WallMap) (s : State) :
    (finishEnd l m s).port = s.port ∧ (finishEnd l m s).odo = s.odo ∧ (finishEnd l m s).supply = s.supply ∧
    (finishEnd l m s).trigger = s.trigger ∧ (finishEnd l m s).exposure = s.exposure ∧
    (finishEnd l m s).intake = s.intake ∧ (finishEnd l m s).slots = s.slots ∧
    (finishEnd l m s).requests = s.requests ∧ (finishEnd l m s).rect = s.rect ∧ (finishEnd l m s).map = s.map ∧
    (finishEnd l m s).lateCommits = s.lateCommits ∧ (finishEnd l m s).statusWrites = s.statusWrites ∧
    (finishEnd l m s).mem = s.mem ∧ (finishEnd l m s).pending = s.pending :=
  by unfold finishEnd; (repeat' split) <;> simp

@[simp] theorem finishDrain_frame (l : LaneId) (starved : Bool) (s : State) :
    (finishDrain l starved s).port.mask = s.port.mask ∧ (finishDrain l starved s).port.anchor = s.port.anchor ∧
    (finishDrain l starved s).port.config = s.port.config ∧
    (finishDrain l starved s).port.inspection = s.port.inspection ∧ (finishDrain l starved s).odo = s.odo ∧
    (finishDrain l starved s).supply = s.supply ∧ (finishDrain l starved s).trigger = s.trigger ∧
    (finishDrain l starved s).exposure = s.exposure ∧ (finishDrain l starved s).intake = s.intake ∧
    (finishDrain l starved s).slots = s.slots ∧ (finishDrain l starved s).requests = s.requests ∧
    (finishDrain l starved s).rect = s.rect ∧ (finishDrain l starved s).map = s.map ∧
    (finishDrain l starved s).lateCommits = s.lateCommits ∧ (finishDrain l starved s).doneWrites = s.doneWrites ∧
    (finishDrain l starved s).mem = s.mem ∧ (finishDrain l starved s).pending = s.pending := by simp [finishDrain]

@[simp] theorem endSurveyNow_frame (s : State) :
    (endSurveyNow s).port.mask = s.port.mask ∧ (endSurveyNow s).port.anchor = s.port.anchor ∧
    (endSurveyNow s).port.config = s.port.config ∧ (endSurveyNow s).port.inspection = s.port.inspection ∧
    (endSurveyNow s).odo = s.odo ∧ (endSurveyNow s).supply = s.supply ∧ (endSurveyNow s).trigger = s.trigger ∧
    (endSurveyNow s).exposure = s.exposure ∧ (endSurveyNow s).intake = s.intake ∧
    (endSurveyNow s).slots = s.slots ∧ (endSurveyNow s).requests = s.requests ∧ (endSurveyNow s).rect = s.rect ∧
    (endSurveyNow s).lateCommits = s.lateCommits ∧ (endSurveyNow s).mem = s.mem ∧
    (endSurveyNow s).pending = s.pending := by unfold endSurveyNow; (repeat' split) <;> simp

@[simp] theorem unbindWhenClosed_frame (s : State) :
    (unbindWhenClosed s).port.mask = s.port.mask ∧ (unbindWhenClosed s).port.anchor = s.port.anchor ∧
    (unbindWhenClosed s).port.config = s.port.config ∧ (unbindWhenClosed s).port.inspection = s.port.inspection ∧
    (unbindWhenClosed s).odo = s.odo ∧ (unbindWhenClosed s).supply = s.supply ∧
    (unbindWhenClosed s).trigger = s.trigger ∧ (unbindWhenClosed s).exposure = s.exposure ∧
    (unbindWhenClosed s).intake = s.intake ∧ (unbindWhenClosed s).slots = s.slots ∧
    (unbindWhenClosed s).requests = s.requests ∧ (unbindWhenClosed s).rect = s.rect ∧
    (unbindWhenClosed s).lateCommits = s.lateCommits ∧ (unbindWhenClosed s).mem = s.mem ∧
    (unbindWhenClosed s).pending = s.pending := by unfold unbindWhenClosed; split <;> simp

@[simp] theorem endDrain_frame (l : LaneId) (s : State) :
    (endDrain l s).port.mask = s.port.mask ∧ (endDrain l s).port.anchor = s.port.anchor ∧
    (endDrain l s).port.config = s.port.config ∧ (endDrain l s).port.inspection = s.port.inspection ∧
    (endDrain l s).odo = s.odo ∧ (endDrain l s).supply = s.supply ∧ (endDrain l s).trigger = s.trigger ∧
    (endDrain l s).exposure = s.exposure ∧ (endDrain l s).intake = s.intake ∧ (endDrain l s).slots = s.slots ∧
    (endDrain l s).requests = s.requests ∧ (endDrain l s).rect = s.rect ∧
    (endDrain l s).lateCommits = s.lateCommits ∧ (endDrain l s).mem = s.mem ∧ (endDrain l s).pending = s.pending :=
  by simp [endDrain]

@[simp] theorem starveDrain_frame (l : LaneId) (n : Int) (s : State) :
    (starveDrain l n s).port.mask = s.port.mask ∧ (starveDrain l n s).port.anchor = s.port.anchor ∧
    (starveDrain l n s).port.config = s.port.config ∧ (starveDrain l n s).port.inspection = s.port.inspection ∧
    (starveDrain l n s).odo = s.odo ∧ (starveDrain l n s).supply = s.supply ∧
    (starveDrain l n s).trigger = s.trigger ∧ (starveDrain l n s).exposure = s.exposure ∧
    (starveDrain l n s).intake = s.intake ∧ (starveDrain l n s).slots = s.slots ∧
    (starveDrain l n s).requests = s.requests ∧ (starveDrain l n s).rect = s.rect ∧
    (starveDrain l n s).lateCommits = s.lateCommits ∧ (starveDrain l n s).mem = s.mem ∧
    (starveDrain l n s).pending = s.pending := by simp [starveDrain]

@[simp] theorem drainRow_frame (l : LaneId) (n : Int) (last : Int) (s : State) :
    (drainRow l n last s).port.mask = s.port.mask ∧ (drainRow l n last s).port.anchor = s.port.anchor ∧
    (drainRow l n last s).port.config = s.port.config ∧ (drainRow l n last s).port.inspection = s.port.inspection ∧
    (drainRow l n last s).odo = s.odo ∧ (drainRow l n last s).supply = s.supply ∧
    (drainRow l n last s).trigger = s.trigger ∧ (drainRow l n last s).exposure = s.exposure ∧
    (drainRow l n last s).intake = s.intake ∧ (drainRow l n last s).slots = s.slots ∧
    (drainRow l n last s).requests = s.requests ∧ (drainRow l n last s).rect = s.rect ∧
    (drainRow l n last s).lateCommits = s.lateCommits ∧ (drainRow l n last s).mem = s.mem ∧
    (drainRow l n last s).pending = s.pending := by unfold drainRow; split <;> simp

@[simp] theorem openSurvey_frame (l : LaneId) (w : StepWord) (s : State) :
    (openSurvey l w s).port = s.port ∧ (openSurvey l w s).odo.p = s.odo.p ∧ (openSurvey l w s).odo.w1 = s.odo.w1 ∧
    (openSurvey l w s).odo.w2 = s.odo.w2 ∧ (openSurvey l w s).odo.mode1 = s.odo.mode1 ∧
    (openSurvey l w s).odo.mode2 = s.odo.mode2 ∧ (openSurvey l w s).supply = s.supply ∧
    (openSurvey l w s).intake.slotCount = s.intake.slotCount ∧ (openSurvey l w s).intake.ws = s.intake.ws ∧
    (openSurvey l w s).intake.hs = s.intake.hs ∧ (openSurvey l w s).requests = s.requests ∧
    (openSurvey l w s).rect = s.rect ∧ (openSurvey l w s).lateCommits = s.lateCommits ∧
    (openSurvey l w s).statusWrites = s.statusWrites ∧ (openSurvey l w s).pending = s.pending :=
  by simp [openSurvey]

@[simp] theorem takeBegin_frame (l : LaneId) (w : StepWord) (s : State) :
    (takeBegin l w s).port = s.port ∧ (takeBegin l w s).odo.p = s.odo.p ∧ (takeBegin l w s).odo.w1 = s.odo.w1 ∧
    (takeBegin l w s).odo.w2 = s.odo.w2 ∧ (takeBegin l w s).odo.mode1 = s.odo.mode1 ∧
    (takeBegin l w s).odo.mode2 = s.odo.mode2 ∧ (takeBegin l w s).supply = s.supply ∧
    (takeBegin l w s).intake.slotCount = s.intake.slotCount ∧ (takeBegin l w s).intake.ws = s.intake.ws ∧
    (takeBegin l w s).intake.hs = s.intake.hs ∧ (takeBegin l w s).requests = s.requests ∧
    (takeBegin l w s).rect = s.rect ∧ (takeBegin l w s).lateCommits = s.lateCommits ∧
    (takeBegin l w s).statusWrites = s.statusWrites ∧ (takeBegin l w s).pending = s.pending :=
  by unfold takeBegin; split <;> simp

@[simp] theorem abandonForHalt_frame (l : LaneId) (w : StepWord) (s : State) :
    (abandonForHalt l w s).port.mask = s.port.mask ∧ (abandonForHalt l w s).port.anchor = s.port.anchor ∧
    (abandonForHalt l w s).port.config = s.port.config ∧
    (abandonForHalt l w s).port.inspection = s.port.inspection ∧ (abandonForHalt l w s).odo = s.odo ∧
    (abandonForHalt l w s).supply = s.supply ∧ (abandonForHalt l w s).exposure = s.exposure ∧
    (abandonForHalt l w s).intake = s.intake ∧ (abandonForHalt l w s).slots = s.slots ∧
    (abandonForHalt l w s).requests = s.requests ∧ (abandonForHalt l w s).rect = s.rect ∧
    (abandonForHalt l w s).map.lane = s.map.lane ∧ (abandonForHalt l w s).map.sinks = s.map.sinks ∧
    (abandonForHalt l w s).map.markers = s.map.markers ∧ (abandonForHalt l w s).lateCommits = s.lateCommits ∧
    (abandonForHalt l w s).mem = s.mem ∧ (abandonForHalt l w s).pending = s.pending := by simp [abandonForHalt]

@[simp] theorem takeSink_frame (l : LaneId) (w : StepWord) (s : State) :
    (takeSink l w s).port.mask = s.port.mask ∧ (takeSink l w s).port.anchor = s.port.anchor ∧
    (takeSink l w s).port.config = s.port.config ∧ (takeSink l w s).port.inspection = s.port.inspection ∧
    (takeSink l w s).odo = s.odo ∧ (takeSink l w s).supply = s.supply ∧ (takeSink l w s).exposure = s.exposure ∧
    (takeSink l w s).intake = s.intake ∧ (takeSink l w s).slots = s.slots ∧
    (takeSink l w s).requests = s.requests ∧ (takeSink l w s).rect = s.rect ∧
    (takeSink l w s).map.lane = s.map.lane ∧ (takeSink l w s).map.markers = s.map.markers ∧
    (takeSink l w s).lateCommits = s.lateCommits ∧ (takeSink l w s).mem = s.mem ∧
    (takeSink l w s).pending = s.pending := by unfold takeSink; (repeat' split) <;> simp

@[simp] theorem takeMark_frame (l : LaneId) (w : StepWord) (s : State) :
    (takeMark l w s).port.mask = s.port.mask ∧ (takeMark l w s).port.anchor = s.port.anchor ∧
    (takeMark l w s).port.config = s.port.config ∧ (takeMark l w s).port.inspection = s.port.inspection ∧
    (takeMark l w s).odo = s.odo ∧ (takeMark l w s).supply = s.supply ∧ (takeMark l w s).exposure = s.exposure ∧
    (takeMark l w s).intake = s.intake ∧ (takeMark l w s).slots = s.slots ∧
    (takeMark l w s).requests = s.requests ∧ (takeMark l w s).rect = s.rect ∧
    (takeMark l w s).map.lane = s.map.lane ∧ (takeMark l w s).map.sinks = s.map.sinks ∧
    (takeMark l w s).lateCommits = s.lateCommits ∧ (takeMark l w s).mem = s.mem ∧
    (takeMark l w s).pending = s.pending := by unfold takeMark; (repeat' split) <;> simp

@[simp] theorem takeEnd_frame (l : LaneId) (w : StepWord) (s : State) :
    (takeEnd l w s).port = s.port ∧ (takeEnd l w s).odo = s.odo ∧ (takeEnd l w s).supply = s.supply ∧
    (takeEnd l w s).exposure = s.exposure ∧ (takeEnd l w s).intake = s.intake ∧ (takeEnd l w s).slots = s.slots ∧
    (takeEnd l w s).requests = s.requests ∧ (takeEnd l w s).rect = s.rect ∧ (takeEnd l w s).map.lane = s.map.lane ∧
    (takeEnd l w s).map.sinks = s.map.sinks ∧ (takeEnd l w s).map.markers = s.map.markers ∧
    (takeEnd l w s).lateCommits = s.lateCommits ∧ (takeEnd l w s).statusWrites = s.statusWrites ∧
    (takeEnd l w s).mem = s.mem ∧ (takeEnd l w s).pending = s.pending := by unfold takeEnd; split <;> simp

@[simp] theorem landLateCommit_frame (q : LateCommit) (s : State) :
    (landLateCommit q s).port = s.port ∧ (landLateCommit q s).odo = s.odo ∧
    (landLateCommit q s).supply = s.supply ∧ (landLateCommit q s).trigger = s.trigger ∧
    (landLateCommit q s).exposure = s.exposure ∧ (landLateCommit q s).intake = s.intake ∧
    (landLateCommit q s).slots = s.slots ∧ (landLateCommit q s).requests = s.requests ∧
    (landLateCommit q s).rect = s.rect ∧ (landLateCommit q s).map = s.map ∧
    (landLateCommit q s).lateCommits = s.lateCommits ∧ (landLateCommit q s).statusWrites = s.statusWrites ∧
    (landLateCommit q s).pending = s.pending := by simp [landLateCommit]

@[simp] theorem dropLateCommit_frame (l : LaneId) (s : State) :
    (dropLateCommit l s).port = s.port ∧ (dropLateCommit l s).lanes = s.lanes ∧ (dropLateCommit l s).odo = s.odo ∧
    (dropLateCommit l s).supply = s.supply ∧ (dropLateCommit l s).trigger = s.trigger ∧
    (dropLateCommit l s).exposure = s.exposure ∧ (dropLateCommit l s).intake = s.intake ∧
    (dropLateCommit l s).slots = s.slots ∧ (dropLateCommit l s).requests = s.requests ∧
    (dropLateCommit l s).rect = s.rect ∧ (dropLateCommit l s).map = s.map ∧
    (dropLateCommit l s).statusWrites = s.statusWrites ∧ (dropLateCommit l s).doneWrites = s.doneWrites ∧
    (dropLateCommit l s).mem = s.mem ∧ (dropLateCommit l s).pending = s.pending :=
  ⟨rfl, rfl, rfl, rfl, rfl, rfl, rfl, rfl, rfl, rfl, rfl, rfl, rfl, rfl, rfl⟩

end Sys2Proof.Machine
end

