-- ==== Sys2Proof/Laws/Render.lean ====
section
/-! SUPPORT. Frames of the arbiter and the rectifier: what each leaves as it was, one lemma for each operation. -/

namespace Sys2Proof.Machine

/-- Past a render grant point, only the stages of the lanes can differ (R161, R184). -/
@[simp] theorem grantPointPast_frame (s : State) :
    (grantPointPast s).port = s.port ∧ (grantPointPast s).odo = s.odo ∧ (grantPointPast s).supply = s.supply ∧
    (grantPointPast s).trigger = s.trigger ∧ (grantPointPast s).exposure = s.exposure ∧
    (grantPointPast s).intake = s.intake ∧ (grantPointPast s).slots = s.slots ∧
    (grantPointPast s).requests = s.requests ∧ (grantPointPast s).rect = s.rect ∧ (grantPointPast s).map = s.map ∧
    (grantPointPast s).lateCommits = s.lateCommits ∧ (grantPointPast s).statusWrites = s.statusWrites ∧
    (grantPointPast s).doneWrites = s.doneWrites ∧ (grantPointPast s).mem = s.mem ∧
    (grantPointPast s).pending = s.pending := by simp [grantPointPast]

@[simp] theorem grantPointPast_lane (s : State) (l : LaneId) : (grantPointPast s).lane l = (s.lane l).grantPast := by
  simp [grantPointPast, State.lane]

@[simp] theorem renderOver_frame (s : State) :
    (renderOver s).port = s.port ∧ (renderOver s).lanes = s.lanes ∧ (renderOver s).odo = s.odo ∧
    (renderOver s).supply = s.supply ∧ (renderOver s).trigger = s.trigger ∧ (renderOver s).exposure = s.exposure ∧
    (renderOver s).intake = s.intake ∧ (renderOver s).requests = s.requests ∧ (renderOver s).map = s.map ∧
    (renderOver s).lateCommits = s.lateCommits ∧ (renderOver s).statusWrites = s.statusWrites ∧
    (renderOver s).doneWrites = s.doneWrites ∧ (renderOver s).mem = s.mem ∧ (renderOver s).pending = s.pending :=
  by unfold renderOver; split <;> simp

@[simp] theorem renderEnd_frame (s : State) :
    (renderEnd s).port = s.port ∧ (renderEnd s).odo.p = s.odo.p ∧ (renderEnd s).odo.w1 = s.odo.w1 ∧
    (renderEnd s).odo.w2 = s.odo.w2 ∧ (renderEnd s).odo.mode1 = s.odo.mode1 ∧
    (renderEnd s).odo.mode2 = s.odo.mode2 ∧ (renderEnd s).supply = s.supply ∧
    (renderEnd s).intake.slotCount = s.intake.slotCount ∧ (renderEnd s).intake.ws = s.intake.ws ∧
    (renderEnd s).intake.hs = s.intake.hs ∧ (renderEnd s).requests = s.requests ∧ (renderEnd s).map = s.map ∧
    (renderEnd s).lateCommits = s.lateCommits ∧ (renderEnd s).statusWrites = s.statusWrites ∧
    (renderEnd s).doneWrites = s.doneWrites ∧ (renderEnd s).pending = s.pending :=
  by unfold renderEnd; (repeat' split) <;> simp

@[simp] theorem finishPatch_frame (l : LaneId) (code : DoneCode) (after : After) (s : State) :
    (finishPatch l code after s).port = s.port ∧ (finishPatch l code after s).odo = s.odo ∧
    (finishPatch l code after s).supply = s.supply ∧ (finishPatch l code after s).trigger = s.trigger ∧
    (finishPatch l code after s).exposure = s.exposure ∧ (finishPatch l code after s).intake = s.intake ∧
    (finishPatch l code after s).slots = s.slots ∧ (finishPatch l code after s).requests = s.requests ∧
    (finishPatch l code after s).rect = s.rect ∧ (finishPatch l code after s).map = s.map ∧
    (finishPatch l code after s).lateCommits = s.lateCommits ∧
    (finishPatch l code after s).statusWrites = s.statusWrites ∧ (finishPatch l code after s).mem = s.mem ∧
    (finishPatch l code after s).pending = s.pending := by unfold finishPatch; split <;> simp

@[simp] theorem stopRender_frame (r : Render) (s : State) :
    (stopRender r s).port = s.port ∧ (stopRender r s).odo.p = s.odo.p ∧ (stopRender r s).odo.w1 = s.odo.w1 ∧
    (stopRender r s).odo.w2 = s.odo.w2 ∧ (stopRender r s).odo.mode1 = s.odo.mode1 ∧
    (stopRender r s).odo.mode2 = s.odo.mode2 ∧ (stopRender r s).supply = s.supply ∧
    (stopRender r s).intake.slotCount = s.intake.slotCount ∧ (stopRender r s).intake.ws = s.intake.ws ∧
    (stopRender r s).intake.hs = s.intake.hs ∧ (stopRender r s).requests = s.requests ∧
    (stopRender r s).map = s.map ∧ (stopRender r s).lateCommits = s.lateCommits ∧
    (stopRender r s).statusWrites = s.statusWrites ∧ (stopRender r s).pending = s.pending :=
  by unfold stopRender; split <;> simp

@[simp] theorem startPatchRender_frame (l : LaneId) (o : PatchOps) (s : State) :
    (startPatchRender l o s).port = s.port ∧ (startPatchRender l o s).lanes = s.lanes ∧
    (startPatchRender l o s).odo = s.odo ∧ (startPatchRender l o s).supply = s.supply ∧
    (startPatchRender l o s).trigger = s.trigger ∧ (startPatchRender l o s).exposure = s.exposure ∧
    (startPatchRender l o s).intake = s.intake ∧ (startPatchRender l o s).requests = s.requests ∧
    (startPatchRender l o s).map = s.map ∧ (startPatchRender l o s).lateCommits = s.lateCommits ∧
    (startPatchRender l o s).statusWrites = s.statusWrites ∧ (startPatchRender l o s).doneWrites = s.doneWrites ∧
    (startPatchRender l o s).mem = s.mem ∧ (startPatchRender l o s).pending = s.pending :=
  by unfold startPatchRender; (repeat' split) <;> simp

@[simp] theorem surveyRendered_frame (r : Render) (s : State) :
    (surveyRendered r s).port = s.port ∧ (surveyRendered r s).odo.p = s.odo.p ∧ (surveyRendered r s).odo.w1 = s.odo.w1 ∧
    (surveyRendered r s).odo.w2 = s.odo.w2 ∧ (surveyRendered r s).odo.mode1 = s.odo.mode1 ∧
    (surveyRendered r s).odo.mode2 = s.odo.mode2 ∧ (surveyRendered r s).supply = s.supply ∧
    (surveyRendered r s).intake.slotCount = s.intake.slotCount ∧ (surveyRendered r s).intake.ws = s.intake.ws ∧
    (surveyRendered r s).intake.hs = s.intake.hs ∧ (surveyRendered r s).requests = s.requests ∧
    (surveyRendered r s).map = s.map ∧ (surveyRendered r s).lateCommits = s.lateCommits ∧
    (surveyRendered r s).statusWrites = s.statusWrites ∧ (surveyRendered r s).doneWrites = s.doneWrites ∧
    (surveyRendered r s).pending = s.pending := by unfold surveyRendered; simp

@[simp] theorem handSurveyRow_frame (r : Render) (last : Int) (n : Int) (counts : RowCounts) (codes : List Byte) (s : State) :
    (handSurveyRow r last n counts codes s).port = s.port ∧
    (handSurveyRow r last n counts codes s).odo.p = s.odo.p ∧
    (handSurveyRow r last n counts codes s).odo.w1 = s.odo.w1 ∧
    (handSurveyRow r last n counts codes s).odo.w2 = s.odo.w2 ∧
    (handSurveyRow r last n counts codes s).odo.mode1 = s.odo.mode1 ∧
    (handSurveyRow r last n counts codes s).odo.mode2 = s.odo.mode2 ∧
    (handSurveyRow r last n counts codes s).supply = s.supply ∧
    (handSurveyRow r last n counts codes s).intake.slotCount = s.intake.slotCount ∧
    (handSurveyRow r last n counts codes s).intake.ws = s.intake.ws ∧
    (handSurveyRow r last n counts codes s).intake.hs = s.intake.hs ∧
    (handSurveyRow r last n counts codes s).requests = s.requests ∧
    (handSurveyRow r last n counts codes s).lateCommits = s.lateCommits ∧
    (handSurveyRow r last n counts codes s).statusWrites = s.statusWrites ∧
    (handSurveyRow r last n counts codes s).doneWrites = s.doneWrites ∧
    (handSurveyRow r last n counts codes s).pending = s.pending := by unfold handSurveyRow; (repeat' split) <;> simp

@[simp] theorem handPatchRow_frame (r : Render) (o : PatchOps) (j : Nat) (counts : RowCounts) (codes : List Byte) (s : State) :
    (handPatchRow r o j counts codes s).port = s.port ∧ (handPatchRow r o j counts codes s).lanes = s.lanes ∧
    (handPatchRow r o j counts codes s).odo = s.odo ∧ (handPatchRow r o j counts codes s).supply = s.supply ∧
    (handPatchRow r o j counts codes s).trigger = s.trigger ∧
    (handPatchRow r o j counts codes s).exposure = s.exposure ∧
    (handPatchRow r o j counts codes s).intake = s.intake ∧ (handPatchRow r o j counts codes s).slots = s.slots ∧
    (handPatchRow r o j counts codes s).requests = s.requests ∧ (handPatchRow r o j counts codes s).map = s.map ∧
    (handPatchRow r o j counts codes s).lateCommits = s.lateCommits ∧
    (handPatchRow r o j counts codes s).statusWrites = s.statusWrites ∧
    (handPatchRow r o j counts codes s).doneWrites = s.doneWrites ∧
    (handPatchRow r o j counts codes s).mem = s.mem ∧ (handPatchRow r o j counts codes s).pending = s.pending :=
  ⟨rfl, rfl, rfl, rfl, rfl, rfl, rfl, rfl, rfl, rfl, rfl, rfl, rfl, rfl, rfl⟩

@[simp] theorem finishRow_frame (r : Render) (columns : List Column) (during : Stores) (seen : List Nat) (s : State) :
    (finishRow r columns during seen s).port = s.port ∧ (finishRow r columns during seen s).odo.p = s.odo.p ∧
    (finishRow r columns during seen s).odo.w1 = s.odo.w1 ∧ (finishRow r columns during seen s).odo.w2 = s.odo.w2 ∧
    (finishRow r columns during seen s).odo.mode1 = s.odo.mode1 ∧ (finishRow r columns during seen s).odo.mode2 = s.odo.mode2 ∧
    (finishRow r columns during seen s).supply = s.supply ∧ (finishRow r columns during seen s).intake.slotCount = s.intake.slotCount ∧
    (finishRow r columns during seen s).intake.ws = s.intake.ws ∧ (finishRow r columns during seen s).intake.hs = s.intake.hs ∧
    (finishRow r columns during seen s).requests = s.requests ∧ (finishRow r columns during seen s).lateCommits = s.lateCommits ∧
    (finishRow r columns during seen s).statusWrites = s.statusWrites ∧ (finishRow r columns during seen s).doneWrites = s.doneWrites ∧
    (finishRow r columns during seen s).pending = s.pending := by unfold finishRow; split <;> simp

@[simp] theorem sourceFaultFor_frame (r : Render) (s : State) :
    (sourceFaultFor r s).port.mask = s.port.mask ∧ (sourceFaultFor r s).port.anchor = s.port.anchor ∧
    (sourceFaultFor r s).port.config = s.port.config ∧ (sourceFaultFor r s).port.inspection = s.port.inspection ∧
    (sourceFaultFor r s).odo = s.odo ∧ (sourceFaultFor r s).supply = s.supply ∧
    (sourceFaultFor r s).trigger = s.trigger ∧ (sourceFaultFor r s).exposure = s.exposure ∧
    (sourceFaultFor r s).intake = s.intake ∧ (sourceFaultFor r s).slots = s.slots ∧
    (sourceFaultFor r s).requests = s.requests ∧ (sourceFaultFor r s).rect = s.rect ∧
    (sourceFaultFor r s).map = s.map ∧ (sourceFaultFor r s).lateCommits = s.lateCommits ∧
    (sourceFaultFor r s).mem = s.mem ∧ (sourceFaultFor r s).pending = s.pending :=
  by unfold sourceFaultFor; (repeat' split) <;> simp

@[simp] theorem patchRowLanded_frame (r : Render) (o : PatchOps) (j : Nat) (s : State) :
    (patchRowLanded r o j s).port = s.port ∧ (patchRowLanded r o j s).odo.p = s.odo.p ∧
    (patchRowLanded r o j s).odo.w1 = s.odo.w1 ∧ (patchRowLanded r o j s).odo.w2 = s.odo.w2 ∧
    (patchRowLanded r o j s).odo.mode1 = s.odo.mode1 ∧ (patchRowLanded r o j s).odo.mode2 = s.odo.mode2 ∧
    (patchRowLanded r o j s).supply = s.supply ∧ (patchRowLanded r o j s).intake.slotCount = s.intake.slotCount ∧
    (patchRowLanded r o j s).intake.ws = s.intake.ws ∧ (patchRowLanded r o j s).intake.hs = s.intake.hs ∧
    (patchRowLanded r o j s).requests = s.requests ∧ (patchRowLanded r o j s).map = s.map ∧
    (patchRowLanded r o j s).lateCommits = s.lateCommits ∧ (patchRowLanded r o j s).statusWrites = s.statusWrites ∧
    (patchRowLanded r o j s).pending = s.pending := by unfold patchRowLanded; (repeat' split) <;> simp

@[simp] theorem patchRowFaulted_frame (r : Render) (s : State) :
    (patchRowFaulted r s).port = s.port ∧ (patchRowFaulted r s).odo.p = s.odo.p ∧
    (patchRowFaulted r s).odo.w1 = s.odo.w1 ∧ (patchRowFaulted r s).odo.w2 = s.odo.w2 ∧
    (patchRowFaulted r s).odo.mode1 = s.odo.mode1 ∧ (patchRowFaulted r s).odo.mode2 = s.odo.mode2 ∧
    (patchRowFaulted r s).supply = s.supply ∧ (patchRowFaulted r s).intake.slotCount = s.intake.slotCount ∧
    (patchRowFaulted r s).intake.ws = s.intake.ws ∧ (patchRowFaulted r s).intake.hs = s.intake.hs ∧
    (patchRowFaulted r s).requests = s.requests ∧ (patchRowFaulted r s).map = s.map ∧
    (patchRowFaulted r s).lateCommits = s.lateCommits ∧ (patchRowFaulted r s).statusWrites = s.statusWrites ∧
    (patchRowFaulted r s).pending = s.pending := by unfold patchRowFaulted; split <;> simp

end Sys2Proof.Machine
end

