-- ==== Sys2Proof/Laws/MapFault.lean ====
section
/-! SUPPORT. Frames of the map fault: what each leaves as it was, one lemma for each operation. -/

namespace Sys2Proof.Machine

/-- When a fault of an access ends the bound survey (R155). -/
theorem mapAccessDue_iff (m : WallMap) (a : MapAccess) :
    mapAccessDue m a = true ↔ (a = .stagingWrite ∧ ¬ (m.phase = .closing ∧ m.faulted = true))
      ∨ (m.phase ≠ .closing ∧ m.commit.isSome = true) := by
  by_cases h : m.phase = .closing <;> simp [mapAccessDue, WallMap.endedByFault, h]

@[simp] theorem withdrawSurvey_frame (l : LaneId) (s : State) :
    (withdrawSurvey l s).port = s.port ∧ (withdrawSurvey l s).lanes = s.lanes ∧ (withdrawSurvey l s).odo = s.odo ∧
    (withdrawSurvey l s).supply = s.supply ∧ (withdrawSurvey l s).trigger = s.trigger ∧
    (withdrawSurvey l s).exposure = s.exposure ∧ (withdrawSurvey l s).intake = s.intake ∧
    (withdrawSurvey l s).slots = s.slots ∧ (withdrawSurvey l s).rect = s.rect ∧ (withdrawSurvey l s).map = s.map ∧
    (withdrawSurvey l s).lateCommits = s.lateCommits ∧ (withdrawSurvey l s).statusWrites = s.statusWrites ∧
    (withdrawSurvey l s).doneWrites = s.doneWrites ∧ (withdrawSurvey l s).mem = s.mem ∧
    (withdrawSurvey l s).pending = s.pending :=
  ⟨rfl, rfl, rfl, rfl, rfl, rfl, rfl, rfl, rfl, rfl, rfl, rfl, rfl, rfl, rfl⟩

@[simp] theorem dropSurveyFrames_frame (l : LaneId) (s : State) :
    (dropSurveyFrames l s).port = s.port ∧ (dropSurveyFrames l s).lanes = s.lanes ∧
    (dropSurveyFrames l s).odo = s.odo ∧ (dropSurveyFrames l s).supply = s.supply ∧
    (dropSurveyFrames l s).trigger = s.trigger ∧ (dropSurveyFrames l s).exposure = s.exposure ∧
    (dropSurveyFrames l s).intake = s.intake ∧ (dropSurveyFrames l s).rect = s.rect ∧
    (dropSurveyFrames l s).map = s.map ∧ (dropSurveyFrames l s).lateCommits = s.lateCommits ∧
    (dropSurveyFrames l s).statusWrites = s.statusWrites ∧ (dropSurveyFrames l s).doneWrites = s.doneWrites ∧
    (dropSurveyFrames l s).mem = s.mem ∧ (dropSurveyFrames l s).pending = s.pending :=
  ⟨rfl, rfl, rfl, rfl, rfl, rfl, rfl, rfl, rfl, rfl, rfl, rfl, rfl, rfl⟩

@[simp] theorem closeFaulted_frame (l : LaneId) (onSinkWrite : Bool) (sinks : List Sink) (s : State) :
    (closeFaulted l onSinkWrite sinks s).port = s.port ∧ (closeFaulted l onSinkWrite sinks s).lanes = s.lanes ∧
    (closeFaulted l onSinkWrite sinks s).odo = s.odo ∧ (closeFaulted l onSinkWrite sinks s).supply = s.supply ∧
    (closeFaulted l onSinkWrite sinks s).trigger = s.trigger ∧
    (closeFaulted l onSinkWrite sinks s).exposure = s.exposure ∧
    (closeFaulted l onSinkWrite sinks s).intake = s.intake ∧ (closeFaulted l onSinkWrite sinks s).slots = s.slots ∧
    (closeFaulted l onSinkWrite sinks s).requests = s.requests ∧
    (closeFaulted l onSinkWrite sinks s).rect = s.rect ∧ (closeFaulted l onSinkWrite sinks s).map = s.map ∧
    (closeFaulted l onSinkWrite sinks s).lateCommits = s.lateCommits ∧
    (closeFaulted l onSinkWrite sinks s).statusWrites = s.statusWrites ∧
    (closeFaulted l onSinkWrite sinks s).mem = s.mem ∧ (closeFaulted l onSinkWrite sinks s).pending = s.pending :=
  by unfold closeFaulted; split <;> simp

@[simp] theorem faultStep_frame (l : LaneId) (m : WallMap) (s : State) :
    (faultStep l m s).port = s.port ∧ (faultStep l m s).odo = s.odo ∧ (faultStep l m s).supply = s.supply ∧
    (faultStep l m s).trigger = s.trigger ∧ (faultStep l m s).exposure = s.exposure ∧
    (faultStep l m s).intake = s.intake ∧ (faultStep l m s).slots = s.slots ∧
    (faultStep l m s).requests = s.requests ∧ (faultStep l m s).rect = s.rect ∧ (faultStep l m s).map = s.map ∧
    (faultStep l m s).lateCommits = s.lateCommits ∧ (faultStep l m s).statusWrites = s.statusWrites ∧
    (faultStep l m s).mem = s.mem ∧ (faultStep l m s).pending = s.pending := by unfold faultStep; split <;> simp

@[simp] theorem mapFaultLane_frame (l : LaneId) (m : WallMap) (s : State) :
    (mapFaultLane l m s).port.mask = s.port.mask ∧ (mapFaultLane l m s).port.anchor = s.port.anchor ∧
    (mapFaultLane l m s).port.config = s.port.config ∧ (mapFaultLane l m s).port.inspection = s.port.inspection ∧
    (mapFaultLane l m s).odo = s.odo ∧ (mapFaultLane l m s).supply = s.supply ∧
    (mapFaultLane l m s).trigger = s.trigger ∧ (mapFaultLane l m s).exposure = s.exposure ∧
    (mapFaultLane l m s).intake = s.intake ∧ (mapFaultLane l m s).slots = s.slots ∧
    (mapFaultLane l m s).requests = s.requests ∧ (mapFaultLane l m s).rect = s.rect ∧
    (mapFaultLane l m s).map = s.map ∧ (mapFaultLane l m s).lateCommits = s.lateCommits ∧
    (mapFaultLane l m s).mem = s.mem ∧ (mapFaultLane l m s).pending = s.pending :=
  by unfold mapFaultLane; split <;> simp

@[simp] theorem absorbLateFault_frame (q : LateCommit) (s : State) :
    (absorbLateFault q s).port = s.port ∧ (absorbLateFault q s).lanes = s.lanes ∧
    (absorbLateFault q s).odo = s.odo ∧ (absorbLateFault q s).supply = s.supply ∧
    (absorbLateFault q s).trigger = s.trigger ∧ (absorbLateFault q s).exposure = s.exposure ∧
    (absorbLateFault q s).intake = s.intake ∧ (absorbLateFault q s).slots = s.slots ∧
    (absorbLateFault q s).requests = s.requests ∧ (absorbLateFault q s).rect = s.rect ∧
    (absorbLateFault q s).map = s.map ∧ (absorbLateFault q s).statusWrites = s.statusWrites ∧
    (absorbLateFault q s).mem = s.mem ∧ (absorbLateFault q s).pending = s.pending := by simp [absorbLateFault]

end Sys2Proof.Machine
end

