-- ==== Sys2Proof/Laws/Clear.lean ====
section
/-! SUPPORT. Frames of CLEAR: what each leaves as it was, one lemma for each operation. -/

namespace Sys2Proof.Machine

@[simp] theorem abandonStep_frame (l : LaneId) (results : List Byte) (s : State) :
    (abandonStep l results s).port = s.port ∧ (abandonStep l results s).lanes = s.lanes ∧
    (abandonStep l results s).odo = s.odo ∧ (abandonStep l results s).supply = s.supply ∧
    (abandonStep l results s).trigger = s.trigger ∧ (abandonStep l results s).exposure = s.exposure ∧
    (abandonStep l results s).intake = s.intake ∧ (abandonStep l results s).slots = s.slots ∧
    (abandonStep l results s).requests = s.requests ∧ (abandonStep l results s).rect = s.rect ∧
    (abandonStep l results s).map = s.map ∧ (abandonStep l results s).lateCommits = s.lateCommits ∧
    (abandonStep l results s).statusWrites = s.statusWrites ∧ (abandonStep l results s).mem = s.mem ∧
    (abandonStep l results s).pending = s.pending :=
  ⟨rfl, rfl, rfl, rfl, rfl, rfl, rfl, rfl, rfl, rfl, rfl, rfl, rfl, rfl, rfl⟩

@[simp] theorem abandonRender_frame (l : LaneId) (s : State) :
    (abandonRender l s).port = s.port ∧ (abandonRender l s).lanes = s.lanes ∧ (abandonRender l s).odo = s.odo ∧
    (abandonRender l s).supply = s.supply ∧ (abandonRender l s).trigger = s.trigger ∧
    (abandonRender l s).exposure = s.exposure ∧ (abandonRender l s).intake = s.intake ∧
    (abandonRender l s).slots = s.slots ∧ (abandonRender l s).rect = s.rect ∧ (abandonRender l s).map = s.map ∧
    (abandonRender l s).lateCommits = s.lateCommits ∧ (abandonRender l s).statusWrites = s.statusWrites ∧
    (abandonRender l s).mem = s.mem ∧ (abandonRender l s).pending = s.pending :=
  by unfold abandonRender; split <;> simp

@[simp] theorem discardRead_frame (l : LaneId) (r : DiscardedRead) (s : State) :
    (discardRead l r s).port = s.port ∧ (discardRead l r s).odo = s.odo ∧ (discardRead l r s).supply = s.supply ∧
    (discardRead l r s).trigger = s.trigger ∧ (discardRead l r s).exposure = s.exposure ∧
    (discardRead l r s).intake = s.intake ∧ (discardRead l r s).slots = s.slots ∧
    (discardRead l r s).requests = s.requests ∧ (discardRead l r s).rect = s.rect ∧
    (discardRead l r s).map = s.map ∧ (discardRead l r s).lateCommits = s.lateCommits ∧
    (discardRead l r s).statusWrites = s.statusWrites ∧ (discardRead l r s).doneWrites = s.doneWrites ∧
    (discardRead l r s).mem = s.mem ∧ (discardRead l r s).pending = s.pending :=
  ⟨rfl, rfl, rfl, rfl, rfl, rfl, rfl, rfl, rfl, rfl, rfl, rfl, rfl, rfl, rfl⟩

@[simp] theorem clearStep_frame (l : LaneId) (s : State) :
    (clearStep l s).port = s.port ∧ (clearStep l s).odo = s.odo ∧ (clearStep l s).supply = s.supply ∧
    (clearStep l s).trigger = s.trigger ∧ (clearStep l s).exposure = s.exposure ∧
    (clearStep l s).intake = s.intake ∧ (clearStep l s).slots = s.slots ∧ (clearStep l s).rect = s.rect ∧
    (clearStep l s).map = s.map ∧ (clearStep l s).lateCommits = s.lateCommits ∧
    (clearStep l s).statusWrites = s.statusWrites ∧ (clearStep l s).mem = s.mem ∧
    (clearStep l s).pending = s.pending := by unfold clearStep; split <;> simp

@[simp] theorem detachWrites_frame (l : LaneId) (s : State) :
    (detachWrites l s).port = s.port ∧ (detachWrites l s).lanes = s.lanes ∧ (detachWrites l s).odo = s.odo ∧
    (detachWrites l s).supply = s.supply ∧ (detachWrites l s).trigger = s.trigger ∧
    (detachWrites l s).exposure = s.exposure ∧ (detachWrites l s).intake = s.intake ∧
    (detachWrites l s).slots = s.slots ∧ (detachWrites l s).requests = s.requests ∧
    (detachWrites l s).rect = s.rect ∧ (detachWrites l s).map = s.map ∧
    (detachWrites l s).lateCommits = s.lateCommits ∧ (detachWrites l s).statusWrites = s.statusWrites ∧
    (detachWrites l s).mem = s.mem ∧ (detachWrites l s).pending = s.pending :=
  ⟨rfl, rfl, rfl, rfl, rfl, rfl, rfl, rfl, rfl, rfl, rfl, rfl, rfl, rfl, rfl⟩

@[simp] theorem stopRenderOf_frame (l : LaneId) (s : State) :
    (stopRenderOf l s).port = s.port ∧ (stopRenderOf l s).lanes = s.lanes ∧ (stopRenderOf l s).odo = s.odo ∧
    (stopRenderOf l s).supply = s.supply ∧ (stopRenderOf l s).trigger = s.trigger ∧
    (stopRenderOf l s).exposure = s.exposure ∧ (stopRenderOf l s).intake = s.intake ∧
    (stopRenderOf l s).slots = s.slots ∧ (stopRenderOf l s).requests = s.requests ∧
    (stopRenderOf l s).map = s.map ∧ (stopRenderOf l s).lateCommits = s.lateCommits ∧
    (stopRenderOf l s).statusWrites = s.statusWrites ∧ (stopRenderOf l s).doneWrites = s.doneWrites ∧
    (stopRenderOf l s).mem = s.mem ∧ (stopRenderOf l s).pending = s.pending :=
  ⟨rfl, rfl, rfl, rfl, rfl, rfl, rfl, rfl, rfl, rfl, rfl, rfl, rfl, rfl, rfl⟩

@[simp] theorem clearSinks_frame (l : LaneId) (sinks : List Sink) (commit : Option Commit) (s : State) :
    (clearSinks l sinks commit s).port = s.port ∧ (clearSinks l sinks commit s).lanes = s.lanes ∧
    (clearSinks l sinks commit s).odo = s.odo ∧ (clearSinks l sinks commit s).supply = s.supply ∧
    (clearSinks l sinks commit s).trigger = s.trigger ∧ (clearSinks l sinks commit s).exposure = s.exposure ∧
    (clearSinks l sinks commit s).intake = s.intake ∧ (clearSinks l sinks commit s).slots = s.slots ∧
    (clearSinks l sinks commit s).requests = s.requests ∧ (clearSinks l sinks commit s).rect = s.rect ∧
    (clearSinks l sinks commit s).map = s.map ∧ (clearSinks l sinks commit s).statusWrites = s.statusWrites ∧
    (clearSinks l sinks commit s).mem = s.mem ∧ (clearSinks l sinks commit s).pending = s.pending :=
  by unfold clearSinks; split <;> simp

@[simp] theorem clearSurvey_frame (l : LaneId) (s : State) :
    (clearSurvey l s).port = s.port ∧ (clearSurvey l s).lanes = s.lanes ∧ (clearSurvey l s).odo = s.odo ∧
    (clearSurvey l s).supply = s.supply ∧ (clearSurvey l s).exposure = s.exposure ∧
    (clearSurvey l s).intake = s.intake ∧ (clearSurvey l s).rect = s.rect ∧
    (clearSurvey l s).statusWrites = s.statusWrites ∧ (clearSurvey l s).mem = s.mem ∧
    (clearSurvey l s).pending = s.pending := by unfold clearSurvey; split <;> simp

@[simp] theorem clearLane_frame (l : LaneId) (s : State) :
    (clearLane l s).port.mask = s.port.mask ∧ (clearLane l s).port.anchor = s.port.anchor ∧
    (clearLane l s).port.config = s.port.config ∧ (clearLane l s).port.inspection = s.port.inspection ∧
    (clearLane l s).odo.p = s.odo.p ∧ (clearLane l s).odo.w1 = s.odo.w1 ∧ (clearLane l s).odo.w2 = s.odo.w2 ∧
    (clearLane l s).odo.mode1 = s.odo.mode1 ∧ (clearLane l s).odo.mode2 = s.odo.mode2 ∧
    (clearLane l s).supply = s.supply ∧ (clearLane l s).intake.slotCount = s.intake.slotCount ∧
    (clearLane l s).intake.ws = s.intake.ws ∧ (clearLane l s).intake.hs = s.intake.hs ∧
    (clearLane l s).statusWrites = s.statusWrites ∧ (clearLane l s).pending = s.pending := by simp [clearLane]

end Sys2Proof.Machine
end

