-- ==== Sys2Proof/Laws/Inspect.lean ====
section
/-! SUPPORT. Frames of the inspection orders: what each leaves as it was, one lemma for each operation. -/

namespace Sys2Proof.Machine

@[simp] theorem takeSnapshot_frame (l : LaneId) (s : State) :
    (takeSnapshot l s).port.queues = s.port.queues ∧ (takeSnapshot l s).port.mask = s.port.mask ∧
    (takeSnapshot l s).port.anchor = s.port.anchor ∧ (takeSnapshot l s).port.config = s.port.config ∧
    (takeSnapshot l s).odo = s.odo ∧ (takeSnapshot l s).supply = s.supply ∧
    (takeSnapshot l s).trigger = s.trigger ∧ (takeSnapshot l s).exposure = s.exposure ∧
    (takeSnapshot l s).intake = s.intake ∧ (takeSnapshot l s).slots = s.slots ∧
    (takeSnapshot l s).requests = s.requests ∧ (takeSnapshot l s).rect = s.rect ∧ (takeSnapshot l s).map = s.map ∧
    (takeSnapshot l s).lateCommits = s.lateCommits ∧ (takeSnapshot l s).statusWrites = s.statusWrites ∧
    (takeSnapshot l s).doneWrites = s.doneWrites ∧ (takeSnapshot l s).mem = s.mem ∧
    (takeSnapshot l s).pending = s.pending :=
  ⟨rfl, rfl, rfl, rfl, rfl, rfl, rfl, rfl, rfl, rfl, rfl, rfl, rfl, rfl, rfl, rfl, rfl, rfl⟩

@[simp] theorem takeDump_frame (l : LaneId) (s : State) :
    (takeDump l s).port.queues = s.port.queues ∧ (takeDump l s).port.mask = s.port.mask ∧
    (takeDump l s).port.anchor = s.port.anchor ∧ (takeDump l s).port.config = s.port.config ∧
    (takeDump l s).lanes = s.lanes ∧ (takeDump l s).odo = s.odo ∧ (takeDump l s).supply = s.supply ∧
    (takeDump l s).trigger = s.trigger ∧ (takeDump l s).exposure = s.exposure ∧ (takeDump l s).intake = s.intake ∧
    (takeDump l s).slots = s.slots ∧ (takeDump l s).requests = s.requests ∧ (takeDump l s).rect = s.rect ∧
    (takeDump l s).map = s.map ∧ (takeDump l s).lateCommits = s.lateCommits ∧
    (takeDump l s).statusWrites = s.statusWrites ∧ (takeDump l s).doneWrites = s.doneWrites ∧
    (takeDump l s).mem = s.mem ∧ (takeDump l s).pending = s.pending :=
  ⟨rfl, rfl, rfl, rfl, rfl, rfl, rfl, rfl, rfl, rfl, rfl, rfl, rfl, rfl, rfl, rfl, rfl, rfl, rfl⟩

end Sys2Proof.Machine
end

