-- ==== Sys2Proof/Laws/Intake.lean ====
section
/-! SUPPORT. Frames of the intake operations: what each leaves as it was, one lemma for each operation. -/

namespace Sys2Proof.Machine

/-! ## Framing (R68) -/

/-- Inside a line token, bytes short of its end complete nothing. -/
theorem frameBytes_inside (len : Nat) (bs taken : List Byte) (n : Nat) (h : bs.length < n) :
    frameBytes len ⟨n, taken⟩ bs = (⟨n - bs.length, bs.reverse ++ taken⟩, []) := by
  induction bs generalizing n taken with
  | nil => rfl
  | cons b bs ih =>
    rw [List.length_cons] at h
    obtain ⟨k, rfl⟩ : ∃ k, n = k + 2 := ⟨n - 2, by omega⟩
    simp only [frameBytes, frameByte, ih (b :: taken) (k + 1) (by omega), List.nil_append]
    simp

/-- The bytes that a line token lacks complete it, whatever they are. -/
theorem frameBytes_complete (len : Nat) (bs taken : List Byte) (n : Nat) (h : bs.length = n) (hn : 0 < n) :
    frameBytes len ⟨n, taken⟩ bs = (.start, [.line (taken.reverse ++ bs)]) := by
  induction bs generalizing n taken with
  | nil => rw [← h] at hn; exact absurd hn (Nat.lt_irrefl 0)
  | cons b bs ih =>
    rw [List.length_cons] at h
    subst h
    cases hl : bs.length with
    | zero => simp [List.eq_nil_of_length_eq_zero hl, frameBytes, frameByte]
    | succ k =>
      simp only [frameBytes, frameByte, ih (b :: taken) (k + 1) hl (by omega), List.nil_append]
      simp

/-- At the start of a token a whole line token is that token, and the next byte is again taken as a type byte. -/
theorem frameBytes_line (len : Nat) (bs : List Byte) (h : bs.length = len) (hl : 0 < len) :
    frameBytes len .start (0xF1 :: bs) = (.start, [.line bs]) := by
  simp [frameBytes, frameByte, frameTypeByte, Framing.start, frameBytes_complete len bs [] len h hl]

/-! ## Frames -/

@[simp] theorem countStray_frame (s : State) :
    (countStray s).port = s.port ∧ (countStray s).lanes = s.lanes ∧ (countStray s).odo = s.odo ∧
    (countStray s).supply = s.supply ∧ (countStray s).trigger = s.trigger ∧ (countStray s).exposure = s.exposure ∧
    (countStray s).intake.slotCount = s.intake.slotCount ∧ (countStray s).intake.ws = s.intake.ws ∧
    (countStray s).intake.hs = s.intake.hs ∧ (countStray s).slots = s.slots ∧
    (countStray s).requests = s.requests ∧ (countStray s).rect = s.rect ∧ (countStray s).map = s.map ∧
    (countStray s).lateCommits = s.lateCommits ∧ (countStray s).statusWrites = s.statusWrites ∧
    (countStray s).doneWrites = s.doneWrites ∧ (countStray s).mem = s.mem ∧ (countStray s).pending = s.pending :=
  ⟨rfl, rfl, rfl, rfl, rfl, rfl, rfl, rfl, rfl, rfl, rfl, rfl, rfl, rfl, rfl, rfl, rfl, rfl⟩

@[simp] theorem writeLine_frame (y : Nat) (pixels : List Nat) (s : State) :
    (writeLine y pixels s).port = s.port ∧ (writeLine y pixels s).lanes = s.lanes ∧
    (writeLine y pixels s).odo = s.odo ∧ (writeLine y pixels s).supply = s.supply ∧
    (writeLine y pixels s).trigger = s.trigger ∧ (writeLine y pixels s).exposure = s.exposure ∧
    (writeLine y pixels s).intake = s.intake ∧ (writeLine y pixels s).slots = s.slots ∧
    (writeLine y pixels s).requests = s.requests ∧ (writeLine y pixels s).rect = s.rect ∧
    (writeLine y pixels s).map = s.map ∧ (writeLine y pixels s).lateCommits = s.lateCommits ∧
    (writeLine y pixels s).statusWrites = s.statusWrites ∧ (writeLine y pixels s).doneWrites = s.doneWrites ∧
    (writeLine y pixels s).pending = s.pending := by unfold writeLine; split <;> simp

@[simp] theorem repairLines_frame (k : Nat) (s : State) :
    (repairLines k s).port = s.port ∧ (repairLines k s).lanes = s.lanes ∧ (repairLines k s).odo = s.odo ∧
    (repairLines k s).supply = s.supply ∧ (repairLines k s).trigger = s.trigger ∧
    (repairLines k s).exposure = s.exposure ∧ (repairLines k s).intake.slotCount = s.intake.slotCount ∧
    (repairLines k s).intake.ws = s.intake.ws ∧ (repairLines k s).intake.hs = s.intake.hs ∧
    (repairLines k s).slots = s.slots ∧ (repairLines k s).requests = s.requests ∧ (repairLines k s).rect = s.rect ∧
    (repairLines k s).map = s.map ∧ (repairLines k s).lateCommits = s.lateCommits ∧
    (repairLines k s).statusWrites = s.statusWrites ∧ (repairLines k s).doneWrites = s.doneWrites ∧
    (repairLines k s).pending = s.pending :=
  by
  induction k generalizing s with
  | zero => simp [repairLines]
  | succ k ih => simp [repairLines, ih]

@[simp] theorem takeLine_frame (pixels : List Nat) (s : State) :
    (takeLine pixels s).port = s.port ∧ (takeLine pixels s).lanes = s.lanes ∧ (takeLine pixels s).odo = s.odo ∧
    (takeLine pixels s).supply = s.supply ∧ (takeLine pixels s).trigger = s.trigger ∧
    (takeLine pixels s).exposure = s.exposure ∧ (takeLine pixels s).intake.slotCount = s.intake.slotCount ∧
    (takeLine pixels s).intake.ws = s.intake.ws ∧ (takeLine pixels s).intake.hs = s.intake.hs ∧
    (takeLine pixels s).slots = s.slots ∧ (takeLine pixels s).requests = s.requests ∧
    (takeLine pixels s).rect = s.rect ∧ (takeLine pixels s).map = s.map ∧
    (takeLine pixels s).lateCommits = s.lateCommits ∧ (takeLine pixels s).statusWrites = s.statusWrites ∧
    (takeLine pixels s).doneWrites = s.doneWrites ∧ (takeLine pixels s).pending = s.pending := by simp [takeLine]

@[simp] theorem exposureOver_frame (s : State) :
    (exposureOver s).port = s.port ∧ (exposureOver s).lanes = s.lanes ∧ (exposureOver s).odo = s.odo ∧
    (exposureOver s).supply = s.supply ∧ (exposureOver s).trigger = s.trigger ∧
    (exposureOver s).intake.slotCount = s.intake.slotCount ∧ (exposureOver s).intake.ws = s.intake.ws ∧
    (exposureOver s).intake.hs = s.intake.hs ∧ (exposureOver s).slots = s.slots ∧
    (exposureOver s).requests = s.requests ∧ (exposureOver s).rect = s.rect ∧ (exposureOver s).map = s.map ∧
    (exposureOver s).lateCommits = s.lateCommits ∧ (exposureOver s).statusWrites = s.statusWrites ∧
    (exposureOver s).doneWrites = s.doneWrites ∧ (exposureOver s).mem = s.mem ∧
    (exposureOver s).pending = s.pending :=
  ⟨rfl, rfl, rfl, rfl, rfl, rfl, rfl, rfl, rfl, rfl, rfl, rfl, rfl, rfl, rfl, rfl, rfl⟩

@[simp] theorem damageFor_frame (r : ExposureRecord) (orphan : Bool) (s : State) :
    (damageFor r orphan s).port = s.port ∧ (damageFor r orphan s).odo = s.odo ∧
    (damageFor r orphan s).supply = s.supply ∧ (damageFor r orphan s).trigger = s.trigger ∧
    (damageFor r orphan s).exposure = s.exposure ∧ (damageFor r orphan s).intake = s.intake ∧
    (damageFor r orphan s).slots = s.slots ∧ (damageFor r orphan s).requests = s.requests ∧
    (damageFor r orphan s).rect = s.rect ∧ (damageFor r orphan s).map = s.map ∧
    (damageFor r orphan s).lateCommits = s.lateCommits ∧ (damageFor r orphan s).statusWrites = s.statusWrites ∧
    (damageFor r orphan s).mem = s.mem ∧ (damageFor r orphan s).pending = s.pending :=
  by unfold damageFor; (repeat' split) <;> simp

@[simp] theorem leaveFilling_frame (i : Nat) (r : ExposureRecord) (repaired : Nat) (orphan : Bool) (s : State) :
    (leaveFilling i r repaired orphan s).port = s.port ∧ (leaveFilling i r repaired orphan s).odo = s.odo ∧
    (leaveFilling i r repaired orphan s).supply = s.supply ∧
    (leaveFilling i r repaired orphan s).trigger = s.trigger ∧
    (leaveFilling i r repaired orphan s).exposure = s.exposure ∧
    (leaveFilling i r repaired orphan s).intake = s.intake ∧ (leaveFilling i r repaired orphan s).rect = s.rect ∧
    (leaveFilling i r repaired orphan s).map = s.map ∧
    (leaveFilling i r repaired orphan s).lateCommits = s.lateCommits ∧
    (leaveFilling i r repaired orphan s).statusWrites = s.statusWrites ∧
    (leaveFilling i r repaired orphan s).mem = s.mem ∧ (leaveFilling i r repaired orphan s).pending = s.pending :=
  by unfold leaveFilling; (repeat' split) <;> simp

end Sys2Proof.Machine
end

