-- ==== Sys2Proof/Laws/Memory.lean ====
section
/-! SUPPORT. Laws of board memory: what a byte reads as after a write, and that every memory operation keeps the canonical
form. -/

namespace Sys2Proof.Machine

/-! ## Lookup -/

theorem lookup_filter (q : Nat → Bool) (m : Memory) (x : Nat) :
    (m.filter fun c => q c.1).lookup x = if q x then m.lookup x else none := by
  induction m with
  | nil => simp
  | cons c cs ih =>
    obtain ⟨k, b⟩ := c
    by_cases hk : q k
    · by_cases hx : x = k
      · subst hx; simp [List.lookup, hk]
      · simp [List.filter, hk, List.lookup, beq_false_of_ne hx, ih]
    · by_cases hx : x = k
      · subst hx; simp [List.filter, hk, ih]
      · simp [List.filter, hk, List.lookup, beq_false_of_ne hx, ih]

theorem lookup_cellsFrom (bs : List Byte) (a x : Nat) :
    (cellsFrom a bs).lookup x
      = if a ≤ x ∧ x < a + bs.length ∧ bs.getD (x - a) 0 ≠ Config.unlistedByte then some (bs.getD (x - a) 0) else none := by
  induction bs generalizing a with
  | nil =>
    have h : ¬ (a ≤ x ∧ x < a + 0 ∧ ([] : List Byte).getD (x - a) 0 ≠ Config.unlistedByte) := by omega
    simp only [cellsFrom, List.lookup, List.length_nil, h, if_false]
  | cons b bs ih =>
    by_cases hx : x = a
    · subst hx
      by_cases hb : b = Config.unlistedByte
      · have : ¬ x + 1 ≤ x := by omega
        simp [cellsFrom, hb, ih, this]
      · simp [cellsFrom, hb]
    · have step : (cellsFrom a (b :: bs)).lookup x = (cellsFrom (a + 1) bs).lookup x := by
        by_cases hb : b = Config.unlistedByte
        · simp [cellsFrom, hb]
        · simp [cellsFrom, hb, List.lookup, beq_false_of_ne hx]
      rw [step, ih]
      by_cases hle : a + 1 ≤ x
      · have e : (b :: bs).getD (x - a) 0 = bs.getD (x - (a + 1)) 0 := by
          have h' : x - a = (x - (a + 1)) + 1 := by omega
          rw [h']; rfl
        have h1 : (a + 1 ≤ x) ↔ (a ≤ x) := by omega
        have h2 : (x < a + 1 + bs.length) ↔ (x < a + (b :: bs).length) := by rw [List.length_cons]; omega
        simp only [e, h1, h2]
      · have h1 : ¬ a ≤ x := by omega
        simp [hle, h1]

/-! ## One byte after a write -/

/-- What a byte reads as after a write that does not wrap. -/
theorem Memory.byteAt_splice (m : Memory) (a x : Nat) (bs : List Byte) :
    (m.splice a bs).byteAt x = if a ≤ x ∧ x < a + bs.length then bs.getD (x - a) 0 else m.byteAt x := by
  have hlt := lookup_filter (fun k => decide (k < a)) m x
  have hge := lookup_filter (fun k => decide (a + bs.length ≤ k)) m x
  unfold Memory.byteAt Memory.splice
  rw [List.lookup_append, List.lookup_append, hlt, hge, lookup_cellsFrom]
  by_cases h1 : x < a
  · have h2 : ¬ a ≤ x := by omega
    have h3 : ¬ a + bs.length ≤ x := by omega
    simp [h1, h2, h3]
  · have h2 : a ≤ x := by omega
    by_cases h4 : x < a + bs.length
    · have h5 : ¬ a + bs.length ≤ x := by omega
      simp only [h1, h2, h4, h5, decide_false, Bool.false_eq_true, if_false, true_and, Option.none_or, Option.or_none, and_self, if_true,
        ne_eq, ite_not]
      split <;> simp_all
    · have h5 : a + bs.length ≤ x := by omega
      simp [h1, h4, h5]

/-- What a byte reads as after a write of at most the whole space: the written byte at its place, counted modulo 2^32, else what
it was. -/
theorem Memory.byteAt_write (m : Memory) (a : Word) (bs : List Byte) (x : Nat) (hx : x < 2 ^ 32)
    (hn : bs.length ≤ 2 ^ 32) :
    (m.write a bs).byteAt x
      = if (x + 2 ^ 32 - a.toNat) % 2 ^ 32 < bs.length then bs.getD ((x + 2 ^ 32 - a.toNat) % 2 ^ 32) 0 else m.byteAt x := by
  have ha : a.toNat < 2 ^ 32 := a.isLt
  unfold Memory.write
  simp only
  split
  · rename_i hroom
    rw [Memory.byteAt_splice]
    by_cases h : a.toNat ≤ x
    · have e : (x + 2 ^ 32 - a.toNat) % 2 ^ 32 = x - a.toNat := by omega
      rw [e]
      by_cases h2 : x < a.toNat + bs.length
      · have h3 : x - a.toNat < bs.length := by omega
        simp [h, h2, h3]
      · have h3 : ¬ x - a.toNat < bs.length := by omega
        simp [h2, h3]
    · have e : (x + 2 ^ 32 - a.toNat) % 2 ^ 32 = x + 2 ^ 32 - a.toNat := by omega
      have h3 : ¬ x + 2 ^ 32 - a.toNat < bs.length := by omega
      rw [e, if_neg h3, if_neg (by omega)]
  · rename_i hroom
    have hl : (bs.take (2 ^ 32 - a.toNat)).length = 2 ^ 32 - a.toNat := by rw [List.length_take]; omega
    have hd : (bs.drop (2 ^ 32 - a.toNat)).take (2 ^ 32) = bs.drop (2 ^ 32 - a.toNat) := by
      apply List.take_of_length_le; rw [List.length_drop]; omega
    rw [hd, Memory.byteAt_splice, Memory.byteAt_splice, hl, List.length_drop]
    by_cases h : a.toNat ≤ x
    · have e : (x + 2 ^ 32 - a.toNat) % 2 ^ 32 = x - a.toNat := by omega
      have h1 : ¬ (0 ≤ x ∧ x < 0 + (bs.length - (2 ^ 32 - a.toNat))) := by omega
      have h2 : a.toNat ≤ x ∧ x < a.toNat + (2 ^ 32 - a.toNat) := by omega
      have h3 : x - a.toNat < bs.length := by omega
      rw [e, if_neg h1, if_pos h2, if_pos h3]
      simp only [List.getD_eq_getElem?_getD, List.getElem?_take]
      rw [if_pos (by omega)]
    · have e : (x + 2 ^ 32 - a.toNat) % 2 ^ 32 = x + 2 ^ 32 - a.toNat := by omega
      have h2 : ¬ (a.toNat ≤ x ∧ x < a.toNat + (2 ^ 32 - a.toNat)) := by omega
      rw [e, if_neg h2]
      by_cases h3 : x + 2 ^ 32 - a.toNat < bs.length
      · have h1 : 0 ≤ x ∧ x < 0 + (bs.length - (2 ^ 32 - a.toNat)) := by omega
        rw [if_pos h1, if_pos h3]
        simp only [List.getD_eq_getElem?_getD, List.getElem?_drop, Nat.sub_zero]
        have e2 : 2 ^ 32 - a.toNat + x = x + 2 ^ 32 - a.toNat := by omega
        rw [e2]
      · have h1 : ¬ (0 ≤ x ∧ x < 0 + (bs.length - (2 ^ 32 - a.toNat))) := by omega
        rw [if_neg h1, if_neg h3]

/-- A write leaves every other byte alone. -/
theorem Memory.byteAt_write_outside (m : Memory) (a : Word) (bs : List Byte) (x : Nat) (hx : x < 2 ^ 32)
    (hn : bs.length ≤ 2 ^ 32) (h : bs.length ≤ (x + 2 ^ 32 - a.toNat) % 2 ^ 32) : (m.write a bs).byteAt x = m.byteAt x := by
  rw [Memory.byteAt_write m a bs x hx hn, if_neg (by omega)]

/-- Bytes read back where they were written are the bytes written. -/
theorem Memory.read_write (m : Memory) (a : Word) (bs : List Byte) (hn : bs.length ≤ 2 ^ 32) :
    (m.write a bs).read a bs.length = bs := by
  have ha : a.toNat < 2 ^ 32 := a.isLt
  unfold Memory.read
  apply List.ext_getElem
  · simp
  · intro i h1 h2
    have hi : i < bs.length := h2
    simp only [List.getElem_map, List.getElem_range]
    rw [Memory.byteAt_write m a bs _ (Nat.mod_lt _ (by decide)) hn]
    have e : ((a.toNat + i) % 2 ^ 32 + 2 ^ 32 - a.toNat) % 2 ^ 32 = i := by omega
    rw [e, if_pos hi, List.getD_eq_getElem?_getD, List.getElem?_eq_getElem hi, Option.getD_some]

/-! ## The canonical form -/

theorem cellsFrom_ge (bs : List Byte) (a : Nat) :
    ∀ c ∈ cellsFrom a bs, a ≤ c.1 ∧ c.1 < a + bs.length ∧ c.2 ≠ Config.unlistedByte := by
  induction bs generalizing a with
  | nil => intro c hc; simp [cellsFrom] at hc
  | cons b bs ih =>
    intro c hc
    by_cases hb : b = Config.unlistedByte
    · simp only [cellsFrom, hb, if_true] at hc
      have h := ih (a + 1) c hc
      simp only [List.length_cons]; exact ⟨by omega, by omega, h.2.2⟩
    · simp only [cellsFrom, hb, if_false, List.mem_cons] at hc
      rcases hc with rfl | hc
      · simp only [List.length_cons]; exact ⟨Nat.le_refl _, by omega, hb⟩
      · have h := ih (a + 1) c hc
        simp only [List.length_cons]; exact ⟨by omega, by omega, h.2.2⟩

theorem cellsFrom_rising (bs : List Byte) (a : Nat) : (cellsFrom a bs).Pairwise (fun c d => c.1 < d.1) := by
  induction bs generalizing a with
  | nil => simp [cellsFrom]
  | cons b bs ih =>
    by_cases hb : b = Config.unlistedByte
    · simpa only [cellsFrom, hb, if_true] using ih (a + 1)
    · simp only [cellsFrom, hb, if_false, List.pairwise_cons]
      exact ⟨fun c hc => by have := cellsFrom_ge bs (a + 1) c hc; omega, ih (a + 1)⟩

/-- A write that does not wrap keeps the canonical form. -/
theorem Memory.wf_splice {m : Memory} (h : m.wf) (a : Nat) (bs : List Byte) (hr : a + bs.length ≤ 2 ^ 32) :
    (m.splice a bs).wf := by
  obtain ⟨hp, hc⟩ := h
  constructor
  · unfold Memory.splice
    refine List.pairwise_append.mpr ⟨hp.filter _, List.pairwise_append.mpr ⟨cellsFrom_rising bs a, hp.filter _, ?_⟩, ?_⟩
    · intro c h1 d h2
      have := cellsFrom_ge bs a c h1
      have h3 := (List.mem_filter.mp h2).2
      simp only [decide_eq_true_eq] at h3
      omega
    · intro c h1 d h2
      have h3 := (List.mem_filter.mp h1).2
      simp only [decide_eq_true_eq] at h3
      rcases List.mem_append.mp h2 with h4 | h4
      · have := cellsFrom_ge bs a d h4; omega
      · have h5 := (List.mem_filter.mp h4).2
        simp only [decide_eq_true_eq] at h5
        omega
  · intro c h1
    unfold Memory.splice at h1
    rcases List.mem_append.mp h1 with h2 | h2
    · exact hc c (List.mem_filter.mp h2).1
    · rcases List.mem_append.mp h2 with h3 | h3
      · have := cellsFrom_ge bs a c h3
        exact ⟨by omega, this.2.2⟩
      · exact hc c (List.mem_filter.mp h3).1

/-- Every write keeps the canonical form. -/
theorem Memory.wf_write {m : Memory} (h : m.wf) (a : Word) (bs : List Byte) : (m.write a bs).wf := by
  have ha : a.toNat < 2 ^ 32 := a.isLt
  unfold Memory.write
  simp only
  split
  · exact Memory.wf_splice h _ _ (by omega)
  · refine Memory.wf_splice (Memory.wf_splice h _ _ ?_) _ _ ?_
    · rw [List.length_take]; omega
    · rw [List.length_take]; omega

/-- The stores of a read keep the canonical form. -/
theorem Memory.wf_afterStores {m : Memory} (h : m.wf) (st : Stores) : (m.afterStores st).wf := by
  unfold Memory.afterStores
  induction st generalizing m with
  | nil => exact h
  | cons c cs ih => exact ih (Memory.wf_write h _ _)

/-- Landing a done word keeps the canonical form. -/
theorem DoneWrite.wf_landIn {m : Memory} (h : m.wf) (d : Machine.DoneWrite) : (d.landIn m).wf :=
  Memory.wf_write (Memory.wf_write h _ _) _ _

/-- Memory after reset has the canonical form. -/
theorem State.wf_reset : State.reset.mem.wf := ⟨List.Pairwise.nil, fun _ h => nomatch h⟩

end Sys2Proof.Machine
end

