-- ==== Sys2Proof/Laws/Odometer.lean ====
section
/-! SUPPORT. Frames of the odometer: what each leaves as it was, one lemma for each operation. -/

namespace Sys2Proof.Machine

@[simp] theorem offerPosition_frame (o : Odometer) (s : State) :
    (offerPosition o s).port = s.port ∧ (offerPosition o s).supply = s.supply ∧
    (offerPosition o s).intake.slotCount = s.intake.slotCount ∧ (offerPosition o s).intake.ws = s.intake.ws ∧
    (offerPosition o s).intake.hs = s.intake.hs ∧ (offerPosition o s).requests = s.requests ∧
    (offerPosition o s).rect = s.rect ∧ (offerPosition o s).map = s.map ∧
    (offerPosition o s).lateCommits = s.lateCommits ∧ (offerPosition o s).statusWrites = s.statusWrites ∧
    (offerPosition o s).doneWrites = s.doneWrites ∧ (offerPosition o s).pending = s.pending :=
  by unfold offerPosition; split <;> simp

end Sys2Proof.Machine
end

