-- ==== Sys2Proof/Laws/Program.lean ====
section
/-! SUPPORT. Frames of the course of a program: what each leaves as it was, one lemma for each operation. -/

namespace Sys2Proof.Machine

@[simp] theorem takeClass_frame (l : LaneId) (c : LaneId) (s : State) :
    (takeClass l c s).port.mask = s.port.mask ∧ (takeClass l c s).port.anchor = s.port.anchor ∧
    (takeClass l c s).port.config = s.port.config ∧ (takeClass l c s).port.inspection = s.port.inspection ∧
    (takeClass l c s).odo = s.odo ∧ (takeClass l c s).supply = s.supply ∧ (takeClass l c s).trigger = s.trigger ∧
    (takeClass l c s).exposure = s.exposure ∧ (takeClass l c s).intake = s.intake ∧
    (takeClass l c s).slots = s.slots ∧ (takeClass l c s).requests = s.requests ∧ (takeClass l c s).rect = s.rect ∧
    (takeClass l c s).map = s.map ∧ (takeClass l c s).lateCommits = s.lateCommits ∧
    (takeClass l c s).statusWrites = s.statusWrites ∧ (takeClass l c s).doneWrites = s.doneWrites ∧
    (takeClass l c s).mem = s.mem ∧ (takeClass l c s).pending = s.pending :=
  by unfold takeClass; (repeat' split) <;> simp

@[simp] theorem blockReadFault_frame (l : LaneId) (s : State) :
    (blockReadFault l s).port.mask = s.port.mask ∧ (blockReadFault l s).port.anchor = s.port.anchor ∧
    (blockReadFault l s).port.config = s.port.config ∧ (blockReadFault l s).port.inspection = s.port.inspection ∧
    (blockReadFault l s).odo = s.odo ∧ (blockReadFault l s).supply = s.supply ∧
    (blockReadFault l s).exposure = s.exposure ∧ (blockReadFault l s).intake = s.intake ∧
    (blockReadFault l s).slots = s.slots ∧ (blockReadFault l s).requests = s.requests ∧
    (blockReadFault l s).rect = s.rect ∧ (blockReadFault l s).map.lane = s.map.lane ∧
    (blockReadFault l s).map.sinks = s.map.sinks ∧ (blockReadFault l s).map.markers = s.map.markers ∧
    (blockReadFault l s).lateCommits = s.lateCommits ∧ (blockReadFault l s).doneWrites = s.doneWrites ∧
    (blockReadFault l s).mem = s.mem ∧ (blockReadFault l s).pending = s.pending := by simp [blockReadFault]

@[simp] theorem enterRunning_frame (l : LaneId) (s : State) :
    (enterRunning l s).port.mask = s.port.mask ∧ (enterRunning l s).port.anchor = s.port.anchor ∧
    (enterRunning l s).port.config = s.port.config ∧ (enterRunning l s).port.inspection = s.port.inspection ∧
    (enterRunning l s).odo = s.odo ∧ (enterRunning l s).supply = s.supply ∧
    (enterRunning l s).trigger = s.trigger ∧ (enterRunning l s).exposure = s.exposure ∧
    (enterRunning l s).intake = s.intake ∧ (enterRunning l s).slots = s.slots ∧
    (enterRunning l s).requests = s.requests ∧ (enterRunning l s).rect = s.rect ∧ (enterRunning l s).map = s.map ∧
    (enterRunning l s).lateCommits = s.lateCommits ∧ (enterRunning l s).doneWrites = s.doneWrites ∧
    (enterRunning l s).mem = s.mem ∧ (enterRunning l s).pending = s.pending :=
  by unfold enterRunning; (repeat' split) <;> simp

@[simp] theorem takeJump_frame (l : LaneId) (w : StepWord) (s : State) :
    (takeJump l w s).port = s.port ∧ (takeJump l w s).odo = s.odo ∧ (takeJump l w s).supply = s.supply ∧
    (takeJump l w s).trigger = s.trigger ∧ (takeJump l w s).exposure = s.exposure ∧
    (takeJump l w s).intake = s.intake ∧ (takeJump l w s).slots = s.slots ∧
    (takeJump l w s).requests = s.requests ∧ (takeJump l w s).rect = s.rect ∧ (takeJump l w s).map = s.map ∧
    (takeJump l w s).lateCommits = s.lateCommits ∧ (takeJump l w s).statusWrites = s.statusWrites ∧
    (takeJump l w s).mem = s.mem ∧ (takeJump l w s).pending = s.pending := by unfold takeJump; split <;> simp

@[simp] theorem noteAfterDoneWord_frame (d : DoneWrite) (s : State) :
    (noteAfterDoneWord d s).port.mask = s.port.mask ∧ (noteAfterDoneWord d s).port.anchor = s.port.anchor ∧
    (noteAfterDoneWord d s).port.config = s.port.config ∧
    (noteAfterDoneWord d s).port.inspection = s.port.inspection ∧ (noteAfterDoneWord d s).odo = s.odo ∧
    (noteAfterDoneWord d s).supply = s.supply ∧ (noteAfterDoneWord d s).trigger = s.trigger ∧
    (noteAfterDoneWord d s).exposure = s.exposure ∧ (noteAfterDoneWord d s).intake = s.intake ∧
    (noteAfterDoneWord d s).slots = s.slots ∧ (noteAfterDoneWord d s).requests = s.requests ∧
    (noteAfterDoneWord d s).rect = s.rect ∧ (noteAfterDoneWord d s).map = s.map ∧
    (noteAfterDoneWord d s).lateCommits = s.lateCommits ∧ (noteAfterDoneWord d s).doneWrites = s.doneWrites ∧
    (noteAfterDoneWord d s).mem = s.mem ∧ (noteAfterDoneWord d s).pending = s.pending :=
  by unfold noteAfterDoneWord; split <;> simp

@[simp] theorem alertFor_frame (d : DoneWrite) (s : State) :
    (alertFor d s).port.mask = s.port.mask ∧ (alertFor d s).port.anchor = s.port.anchor ∧
    (alertFor d s).port.config = s.port.config ∧ (alertFor d s).port.inspection = s.port.inspection ∧
    (alertFor d s).odo = s.odo ∧ (alertFor d s).supply = s.supply ∧ (alertFor d s).trigger = s.trigger ∧
    (alertFor d s).exposure = s.exposure ∧ (alertFor d s).intake = s.intake ∧ (alertFor d s).slots = s.slots ∧
    (alertFor d s).requests = s.requests ∧ (alertFor d s).rect = s.rect ∧ (alertFor d s).map = s.map ∧
    (alertFor d s).lateCommits = s.lateCommits ∧ (alertFor d s).doneWrites = s.doneWrites ∧
    (alertFor d s).mem = s.mem ∧ (alertFor d s).pending = s.pending := by unfold alertFor; split <;> simp

@[simp] theorem goOnAfter_frame (d : DoneWrite) (s : State) :
    (goOnAfter d s).port.mask = s.port.mask ∧ (goOnAfter d s).port.anchor = s.port.anchor ∧
    (goOnAfter d s).port.config = s.port.config ∧ (goOnAfter d s).port.inspection = s.port.inspection ∧
    (goOnAfter d s).odo = s.odo ∧ (goOnAfter d s).supply = s.supply ∧ (goOnAfter d s).exposure = s.exposure ∧
    (goOnAfter d s).intake = s.intake ∧ (goOnAfter d s).slots = s.slots ∧ (goOnAfter d s).requests = s.requests ∧
    (goOnAfter d s).rect = s.rect ∧ (goOnAfter d s).lateCommits = s.lateCommits ∧ (goOnAfter d s).mem = s.mem ∧
    (goOnAfter d s).pending = s.pending := by unfold goOnAfter; (repeat' split) <;> simp

@[simp] theorem doneWordWritten_frame (d : DoneWrite) (s : State) :
    (doneWordWritten d s).port.mask = s.port.mask ∧ (doneWordWritten d s).port.anchor = s.port.anchor ∧
    (doneWordWritten d s).port.config = s.port.config ∧ (doneWordWritten d s).port.inspection = s.port.inspection ∧
    (doneWordWritten d s).odo = s.odo ∧ (doneWordWritten d s).supply = s.supply ∧
    (doneWordWritten d s).exposure = s.exposure ∧ (doneWordWritten d s).intake = s.intake ∧
    (doneWordWritten d s).slots = s.slots ∧ (doneWordWritten d s).requests = s.requests ∧
    (doneWordWritten d s).rect = s.rect ∧ (doneWordWritten d s).lateCommits = s.lateCommits ∧
    (doneWordWritten d s).mem = s.mem ∧ (doneWordWritten d s).pending = s.pending := by simp [doneWordWritten]

@[simp] theorem doneWriteEffect_frame (d : DoneWrite) (write : WriteEnd) (s : State) :
    (doneWriteEffect d write s).port.queues = s.port.queues ∧ (doneWriteEffect d write s).port.mask = s.port.mask ∧
    (doneWriteEffect d write s).port.anchor = s.port.anchor ∧
    (doneWriteEffect d write s).port.config = s.port.config ∧
    (doneWriteEffect d write s).port.inspection = s.port.inspection ∧ (doneWriteEffect d write s).lanes = s.lanes ∧
    (doneWriteEffect d write s).odo = s.odo ∧ (doneWriteEffect d write s).supply = s.supply ∧
    (doneWriteEffect d write s).trigger = s.trigger ∧ (doneWriteEffect d write s).exposure = s.exposure ∧
    (doneWriteEffect d write s).intake = s.intake ∧ (doneWriteEffect d write s).slots = s.slots ∧
    (doneWriteEffect d write s).requests = s.requests ∧ (doneWriteEffect d write s).rect = s.rect ∧
    (doneWriteEffect d write s).map = s.map ∧ (doneWriteEffect d write s).lateCommits = s.lateCommits ∧
    (doneWriteEffect d write s).statusWrites = s.statusWrites ∧
    (doneWriteEffect d write s).doneWrites = s.doneWrites ∧ (doneWriteEffect d write s).pending = s.pending :=
  by unfold doneWriteEffect; split <;> simp

end Sys2Proof.Machine
end

