-- ==== Sys2Proof/Laws/Orders.lean ====
section
/-! SUPPORT. Frames of the orders and register accesses: what each leaves as it was, one lemma for each operation. -/

namespace Sys2Proof.Machine

@[simp] theorem State.withResult_frame (s : State) (c : ResultCode) :
    (s.withResult c).port.queues = s.port.queues ∧ (s.withResult c).port.mask = s.port.mask ∧
    (s.withResult c).port.anchor = s.port.anchor ∧ (s.withResult c).port.config = s.port.config ∧
    (s.withResult c).port.inspection = s.port.inspection ∧ (s.withResult c).lanes = s.lanes ∧
    (s.withResult c).odo = s.odo ∧ (s.withResult c).supply = s.supply ∧ (s.withResult c).trigger = s.trigger ∧
    (s.withResult c).exposure = s.exposure ∧ (s.withResult c).intake = s.intake ∧
    (s.withResult c).slots = s.slots ∧ (s.withResult c).requests = s.requests ∧ (s.withResult c).rect = s.rect ∧
    (s.withResult c).map = s.map ∧ (s.withResult c).lateCommits = s.lateCommits ∧
    (s.withResult c).statusWrites = s.statusWrites ∧ (s.withResult c).doneWrites = s.doneWrites ∧
    (s.withResult c).mem = s.mem ∧ (s.withResult c).pending = s.pending :=
  ⟨rfl, rfl, rfl, rfl, rfl, rfl, rfl, rfl, rfl, rfl, rfl, rfl, rfl, rfl, rfl, rfl, rfl, rfl, rfl, rfl⟩

@[simp] theorem refuseBusy_frame (s : State) :
    (refuseBusy s).port.queues = s.port.queues ∧ (refuseBusy s).port.mask = s.port.mask ∧
    (refuseBusy s).port.anchor = s.port.anchor ∧ (refuseBusy s).port.config = s.port.config ∧
    (refuseBusy s).port.inspection = s.port.inspection ∧ (refuseBusy s).lanes = s.lanes ∧
    (refuseBusy s).odo = s.odo ∧ (refuseBusy s).supply = s.supply ∧ (refuseBusy s).trigger = s.trigger ∧
    (refuseBusy s).exposure = s.exposure ∧ (refuseBusy s).intake = s.intake ∧ (refuseBusy s).slots = s.slots ∧
    (refuseBusy s).requests = s.requests ∧ (refuseBusy s).rect = s.rect ∧ (refuseBusy s).map = s.map ∧
    (refuseBusy s).lateCommits = s.lateCommits ∧ (refuseBusy s).statusWrites = s.statusWrites ∧
    (refuseBusy s).doneWrites = s.doneWrites ∧ (refuseBusy s).mem = s.mem ∧ (refuseBusy s).pending = s.pending :=
  ⟨rfl, rfl, rfl, rfl, rfl, rfl, rfl, rfl, rfl, rfl, rfl, rfl, rfl, rfl, rfl, rfl, rfl, rfl, rfl, rfl⟩

@[simp] theorem refusePending_frame (l : LaneId) (s : State) :
    (refusePending l s).port.mask = s.port.mask ∧ (refusePending l s).port.anchor = s.port.anchor ∧
    (refusePending l s).port.config = s.port.config ∧ (refusePending l s).port.inspection = s.port.inspection ∧
    (refusePending l s).odo = s.odo ∧ (refusePending l s).supply = s.supply ∧
    (refusePending l s).trigger = s.trigger ∧ (refusePending l s).exposure = s.exposure ∧
    (refusePending l s).intake = s.intake ∧ (refusePending l s).slots = s.slots ∧
    (refusePending l s).requests = s.requests ∧ (refusePending l s).rect = s.rect ∧
    (refusePending l s).map = s.map ∧ (refusePending l s).lateCommits = s.lateCommits ∧
    (refusePending l s).doneWrites = s.doneWrites ∧ (refusePending l s).mem = s.mem ∧
    (refusePending l s).pending = s.pending := by simp [refusePending]

@[simp] theorem ruleStart_frame (l : LaneId) (s : State) :
    (ruleStart l s).port.mask = s.port.mask ∧ (ruleStart l s).port.anchor = s.port.anchor ∧
    (ruleStart l s).port.config = s.port.config ∧ (ruleStart l s).port.inspection = s.port.inspection ∧
    (ruleStart l s).odo = s.odo ∧ (ruleStart l s).supply = s.supply ∧ (ruleStart l s).trigger = s.trigger ∧
    (ruleStart l s).exposure = s.exposure ∧ (ruleStart l s).intake = s.intake ∧ (ruleStart l s).slots = s.slots ∧
    (ruleStart l s).requests = s.requests ∧ (ruleStart l s).rect = s.rect ∧ (ruleStart l s).map = s.map ∧
    (ruleStart l s).lateCommits = s.lateCommits ∧ (ruleStart l s).doneWrites = s.doneWrites ∧
    (ruleStart l s).mem = s.mem ∧ (ruleStart l s).pending = s.pending :=
  by unfold ruleStart; (repeat' split) <;> simp

@[simp] theorem resumeLater_frame (l : LaneId) (s : State) :
    (resumeLater l s).port.queues = s.port.queues ∧ (resumeLater l s).port.mask = s.port.mask ∧
    (resumeLater l s).port.anchor = s.port.anchor ∧ (resumeLater l s).port.config = s.port.config ∧
    (resumeLater l s).port.inspection = s.port.inspection ∧ (resumeLater l s).odo = s.odo ∧
    (resumeLater l s).supply = s.supply ∧ (resumeLater l s).trigger = s.trigger ∧
    (resumeLater l s).exposure = s.exposure ∧ (resumeLater l s).intake = s.intake ∧
    (resumeLater l s).slots = s.slots ∧ (resumeLater l s).requests = s.requests ∧ (resumeLater l s).rect = s.rect ∧
    (resumeLater l s).map = s.map ∧ (resumeLater l s).lateCommits = s.lateCommits ∧
    (resumeLater l s).statusWrites = s.statusWrites ∧ (resumeLater l s).doneWrites = s.doneWrites ∧
    (resumeLater l s).mem = s.mem ∧ (resumeLater l s).pending = s.pending := by unfold resumeLater; split <;> simp

@[simp] theorem resumeRunning_frame (l : LaneId) (s : State) :
    (resumeRunning l s).port.queues = s.port.queues ∧ (resumeRunning l s).port.mask = s.port.mask ∧
    (resumeRunning l s).port.anchor = s.port.anchor ∧ (resumeRunning l s).port.config = s.port.config ∧
    (resumeRunning l s).port.inspection = s.port.inspection ∧ (resumeRunning l s).odo = s.odo ∧
    (resumeRunning l s).supply = s.supply ∧ (resumeRunning l s).trigger = s.trigger ∧
    (resumeRunning l s).exposure = s.exposure ∧ (resumeRunning l s).intake = s.intake ∧
    (resumeRunning l s).slots = s.slots ∧ (resumeRunning l s).requests = s.requests ∧ (resumeRunning l s).rect = s.rect ∧
    (resumeRunning l s).map = s.map ∧ (resumeRunning l s).lateCommits = s.lateCommits ∧
    (resumeRunning l s).statusWrites = s.statusWrites ∧ (resumeRunning l s).doneWrites = s.doneWrites ∧
    (resumeRunning l s).mem = s.mem ∧ (resumeRunning l s).pending = s.pending := by unfold resumeRunning; split <;> simp

@[simp] theorem resumeNow_frame (l : LaneId) (s : State) :
    (resumeNow l s).port.mask = s.port.mask ∧ (resumeNow l s).port.anchor = s.port.anchor ∧
    (resumeNow l s).port.config = s.port.config ∧ (resumeNow l s).port.inspection = s.port.inspection ∧
    (resumeNow l s).odo = s.odo ∧ (resumeNow l s).supply = s.supply ∧ (resumeNow l s).trigger = s.trigger ∧
    (resumeNow l s).exposure = s.exposure ∧ (resumeNow l s).intake = s.intake ∧ (resumeNow l s).slots = s.slots ∧
    (resumeNow l s).requests = s.requests ∧ (resumeNow l s).rect = s.rect ∧ (resumeNow l s).map = s.map ∧
    (resumeNow l s).lateCommits = s.lateCommits ∧ (resumeNow l s).doneWrites = s.doneWrites ∧
    (resumeNow l s).mem = s.mem ∧ (resumeNow l s).pending = s.pending := by unfold resumeNow; split <;> simp

@[simp] theorem ruleResume_frame (l : LaneId) (s : State) :
    (ruleResume l s).port.mask = s.port.mask ∧ (ruleResume l s).port.anchor = s.port.anchor ∧
    (ruleResume l s).port.config = s.port.config ∧ (ruleResume l s).port.inspection = s.port.inspection ∧
    (ruleResume l s).odo = s.odo ∧ (ruleResume l s).supply = s.supply ∧ (ruleResume l s).trigger = s.trigger ∧
    (ruleResume l s).exposure = s.exposure ∧ (ruleResume l s).intake = s.intake ∧
    (ruleResume l s).slots = s.slots ∧ (ruleResume l s).requests = s.requests ∧ (ruleResume l s).rect = s.rect ∧
    (ruleResume l s).map = s.map ∧ (ruleResume l s).lateCommits = s.lateCommits ∧
    (ruleResume l s).doneWrites = s.doneWrites ∧ (ruleResume l s).mem = s.mem ∧
    (ruleResume l s).pending = s.pending := by unfold ruleResume; split <;> simp

@[simp] theorem haltAt_frame (l : LaneId) (s : State) :
    (haltAt l s).port.mask = s.port.mask ∧ (haltAt l s).port.anchor = s.port.anchor ∧
    (haltAt l s).port.config = s.port.config ∧ (haltAt l s).port.inspection = s.port.inspection ∧
    (haltAt l s).odo = s.odo ∧ (haltAt l s).supply = s.supply ∧ (haltAt l s).exposure = s.exposure ∧
    (haltAt l s).intake = s.intake ∧ (haltAt l s).slots = s.slots ∧ (haltAt l s).requests = s.requests ∧
    (haltAt l s).rect = s.rect ∧ (haltAt l s).map.lane = s.map.lane ∧ (haltAt l s).map.sinks = s.map.sinks ∧
    (haltAt l s).map.markers = s.map.markers ∧ (haltAt l s).lateCommits = s.lateCommits ∧
    (haltAt l s).mem = s.mem ∧ (haltAt l s).pending = s.pending := by unfold haltAt; split <;> simp

@[simp] theorem haltRunning_frame (l : LaneId) (s : State) :
    (haltRunning l s).port.mask = s.port.mask ∧ (haltRunning l s).port.anchor = s.port.anchor ∧
    (haltRunning l s).port.config = s.port.config ∧ (haltRunning l s).port.inspection = s.port.inspection ∧
    (haltRunning l s).odo = s.odo ∧ (haltRunning l s).supply = s.supply ∧ (haltRunning l s).exposure = s.exposure ∧
    (haltRunning l s).intake = s.intake ∧ (haltRunning l s).slots = s.slots ∧
    (haltRunning l s).requests = s.requests ∧ (haltRunning l s).rect = s.rect ∧
    (haltRunning l s).map.lane = s.map.lane ∧ (haltRunning l s).map.sinks = s.map.sinks ∧
    (haltRunning l s).map.markers = s.map.markers ∧ (haltRunning l s).lateCommits = s.lateCommits ∧
    (haltRunning l s).mem = s.mem ∧ (haltRunning l s).pending = s.pending := by unfold haltRunning; split <;> simp

@[simp] theorem ruleHalt_frame (l : LaneId) (s : State) :
    (ruleHalt l s).port.mask = s.port.mask ∧ (ruleHalt l s).port.anchor = s.port.anchor ∧
    (ruleHalt l s).port.config = s.port.config ∧ (ruleHalt l s).port.inspection = s.port.inspection ∧
    (ruleHalt l s).odo = s.odo ∧ (ruleHalt l s).supply = s.supply ∧ (ruleHalt l s).exposure = s.exposure ∧
    (ruleHalt l s).intake = s.intake ∧ (ruleHalt l s).slots = s.slots ∧ (ruleHalt l s).requests = s.requests ∧
    (ruleHalt l s).rect = s.rect ∧ (ruleHalt l s).map.lane = s.map.lane ∧ (ruleHalt l s).map.sinks = s.map.sinks ∧
    (ruleHalt l s).map.markers = s.map.markers ∧ (ruleHalt l s).lateCommits = s.lateCommits ∧
    (ruleHalt l s).mem = s.mem ∧ (ruleHalt l s).pending = s.pending := by unfold ruleHalt; split <;> simp

@[simp] theorem ruleTake_frame (l : LaneId) (s : State) :
    (ruleTake l s).port.mask = s.port.mask ∧ (ruleTake l s).port.anchor = s.port.anchor ∧
    (ruleTake l s).port.config = s.port.config ∧ (ruleTake l s).port.inspection = s.port.inspection ∧
    (ruleTake l s).odo = s.odo ∧ (ruleTake l s).supply = s.supply ∧ (ruleTake l s).trigger = s.trigger ∧
    (ruleTake l s).exposure = s.exposure ∧ (ruleTake l s).intake = s.intake ∧ (ruleTake l s).slots = s.slots ∧
    (ruleTake l s).requests = s.requests ∧ (ruleTake l s).rect = s.rect ∧ (ruleTake l s).map = s.map ∧
    (ruleTake l s).lateCommits = s.lateCommits ∧ (ruleTake l s).statusWrites = s.statusWrites ∧
    (ruleTake l s).doneWrites = s.doneWrites ∧ (ruleTake l s).mem = s.mem ∧ (ruleTake l s).pending = s.pending :=
  by unfold ruleTake; split <;> simp

@[simp] theorem ruleClear_frame (l : LaneId) (s : State) :
    (ruleClear l s).port.mask = s.port.mask ∧ (ruleClear l s).port.anchor = s.port.anchor ∧
    (ruleClear l s).port.config = s.port.config ∧ (ruleClear l s).port.inspection = s.port.inspection ∧
    (ruleClear l s).odo.p = s.odo.p ∧ (ruleClear l s).odo.w1 = s.odo.w1 ∧ (ruleClear l s).odo.w2 = s.odo.w2 ∧
    (ruleClear l s).odo.mode1 = s.odo.mode1 ∧ (ruleClear l s).odo.mode2 = s.odo.mode2 ∧
    (ruleClear l s).supply = s.supply ∧ (ruleClear l s).intake.slotCount = s.intake.slotCount ∧
    (ruleClear l s).intake.ws = s.intake.ws ∧ (ruleClear l s).intake.hs = s.intake.hs ∧
    (ruleClear l s).statusWrites = s.statusWrites ∧ (ruleClear l s).pending = s.pending :=
  by unfold ruleClear; split <;> simp

@[simp] theorem ruleHold_frame (l : LaneId) (s : State) :
    (ruleHold l s).port.queues = s.port.queues ∧ (ruleHold l s).port.mask = s.port.mask ∧
    (ruleHold l s).port.anchor = s.port.anchor ∧ (ruleHold l s).port.config = s.port.config ∧
    (ruleHold l s).port.inspection = s.port.inspection ∧ (ruleHold l s).odo = s.odo ∧
    (ruleHold l s).supply = s.supply ∧ (ruleHold l s).trigger = s.trigger ∧ (ruleHold l s).exposure = s.exposure ∧
    (ruleHold l s).intake = s.intake ∧ (ruleHold l s).slots = s.slots ∧ (ruleHold l s).requests = s.requests ∧
    (ruleHold l s).rect = s.rect ∧ (ruleHold l s).map = s.map ∧ (ruleHold l s).lateCommits = s.lateCommits ∧
    (ruleHold l s).statusWrites = s.statusWrites ∧ (ruleHold l s).doneWrites = s.doneWrites ∧
    (ruleHold l s).mem = s.mem ∧ (ruleHold l s).pending = s.pending := by unfold ruleHold; split <;> simp

@[simp] theorem leaveTagged_frame (l : LaneId) (s : State) :
    (leaveTagged l s).port.mask = s.port.mask ∧ (leaveTagged l s).port.anchor = s.port.anchor ∧
    (leaveTagged l s).port.config = s.port.config ∧ (leaveTagged l s).port.inspection = s.port.inspection ∧
    (leaveTagged l s).odo = s.odo ∧ (leaveTagged l s).supply = s.supply ∧ (leaveTagged l s).exposure = s.exposure ∧
    (leaveTagged l s).intake = s.intake ∧ (leaveTagged l s).slots = s.slots ∧
    (leaveTagged l s).requests = s.requests ∧ (leaveTagged l s).rect = s.rect ∧
    (leaveTagged l s).map.lane = s.map.lane ∧ (leaveTagged l s).map.sinks = s.map.sinks ∧
    (leaveTagged l s).map.markers = s.map.markers ∧ (leaveTagged l s).lateCommits = s.lateCommits ∧
    (leaveTagged l s).mem = s.mem ∧ (leaveTagged l s).pending = s.pending := by unfold leaveTagged; split <;> simp

@[simp] theorem goOn_frame (l : LaneId) (s : State) :
    (goOn l s).port.mask = s.port.mask ∧ (goOn l s).port.anchor = s.port.anchor ∧
    (goOn l s).port.config = s.port.config ∧ (goOn l s).port.inspection = s.port.inspection ∧
    (goOn l s).odo = s.odo ∧ (goOn l s).supply = s.supply ∧ (goOn l s).exposure = s.exposure ∧
    (goOn l s).intake = s.intake ∧ (goOn l s).slots = s.slots ∧ (goOn l s).requests = s.requests ∧
    (goOn l s).rect = s.rect ∧ (goOn l s).map.lane = s.map.lane ∧ (goOn l s).map.sinks = s.map.sinks ∧
    (goOn l s).map.markers = s.map.markers ∧ (goOn l s).lateCommits = s.lateCommits ∧ (goOn l s).mem = s.mem ∧
    (goOn l s).pending = s.pending := by unfold goOn; (repeat' split) <;> simp

@[simp] theorem evalTriggerFor_frame (l : LaneId) (s : State) :
    (evalTriggerFor l s).port = s.port ∧ (evalTriggerFor l s).odo.p = s.odo.p ∧
    (evalTriggerFor l s).odo.w1 = s.odo.w1 ∧ (evalTriggerFor l s).odo.w2 = s.odo.w2 ∧
    (evalTriggerFor l s).odo.mode1 = s.odo.mode1 ∧ (evalTriggerFor l s).odo.mode2 = s.odo.mode2 ∧
    (evalTriggerFor l s).supply = s.supply ∧ (evalTriggerFor l s).intake.slotCount = s.intake.slotCount ∧
    (evalTriggerFor l s).intake.ws = s.intake.ws ∧ (evalTriggerFor l s).intake.hs = s.intake.hs ∧
    (evalTriggerFor l s).requests = s.requests ∧ (evalTriggerFor l s).rect = s.rect ∧
    (evalTriggerFor l s).map = s.map ∧ (evalTriggerFor l s).lateCommits = s.lateCommits ∧
    (evalTriggerFor l s).statusWrites = s.statusWrites ∧ (evalTriggerFor l s).doneWrites = s.doneWrites ∧
    (evalTriggerFor l s).pending = s.pending := by unfold evalTriggerFor; split <;> simp

@[simp] theorem ruleGo_frame (l : LaneId) (s : State) :
    (ruleGo l s).port.mask = s.port.mask ∧ (ruleGo l s).port.anchor = s.port.anchor ∧
    (ruleGo l s).port.config = s.port.config ∧ (ruleGo l s).port.inspection = s.port.inspection ∧
    (ruleGo l s).odo.p = s.odo.p ∧ (ruleGo l s).odo.w1 = s.odo.w1 ∧ (ruleGo l s).odo.w2 = s.odo.w2 ∧
    (ruleGo l s).odo.mode1 = s.odo.mode1 ∧ (ruleGo l s).odo.mode2 = s.odo.mode2 ∧ (ruleGo l s).supply = s.supply ∧
    (ruleGo l s).intake.slotCount = s.intake.slotCount ∧ (ruleGo l s).intake.ws = s.intake.ws ∧
    (ruleGo l s).intake.hs = s.intake.hs ∧ (ruleGo l s).requests = s.requests ∧ (ruleGo l s).rect = s.rect ∧
    (ruleGo l s).map.lane = s.map.lane ∧ (ruleGo l s).map.sinks = s.map.sinks ∧
    (ruleGo l s).map.markers = s.map.markers ∧ (ruleGo l s).lateCommits = s.lateCommits ∧
    (ruleGo l s).pending = s.pending := by unfold ruleGo; (repeat' split) <;> simp

/-- What the grant point of a STEP can do to the lanes: nothing, or a lane that is SUSPENDED waits for the grant (R161, R184). -/
theorem grantBeforeHold_lane (l : LaneId) (s : State) :
    grantBeforeHold l s = s
      ∨ (s.lane l).state = .suspended ∧ grantBeforeHold l s = s.setLane l fun x => { x with stage := .leftHold } := by
  by_cases h : (s.lane l).state = .suspended ∧ (nextGrant (s.setLane l fun x => { x with stage := .leftHold })).isSome
  · exact .inr ⟨h.1, if_pos h⟩
  · exact .inl (if_neg h)

@[simp] theorem grantBeforeHold_frame (l : LaneId) (s : State) :
    (grantBeforeHold l s).port = s.port ∧ (grantBeforeHold l s).odo = s.odo ∧ (grantBeforeHold l s).supply = s.supply ∧
    (grantBeforeHold l s).trigger = s.trigger ∧ (grantBeforeHold l s).exposure = s.exposure ∧
    (grantBeforeHold l s).intake = s.intake ∧ (grantBeforeHold l s).slots = s.slots ∧
    (grantBeforeHold l s).requests = s.requests ∧ (grantBeforeHold l s).rect = s.rect ∧ (grantBeforeHold l s).map = s.map ∧
    (grantBeforeHold l s).lateCommits = s.lateCommits ∧ (grantBeforeHold l s).statusWrites = s.statusWrites ∧
    (grantBeforeHold l s).doneWrites = s.doneWrites ∧ (grantBeforeHold l s).mem = s.mem ∧
    (grantBeforeHold l s).pending = s.pending := by
  obtain h | h := grantBeforeHold_lane l s <;> simp [h]

@[simp] theorem stepOn_frame (l : LaneId) (s : State) :
    (stepOn l s).port.mask = s.port.mask ∧ (stepOn l s).port.anchor = s.port.anchor ∧
    (stepOn l s).port.config = s.port.config ∧ (stepOn l s).port.inspection = s.port.inspection ∧
    (stepOn l s).odo = s.odo ∧ (stepOn l s).supply = s.supply ∧ (stepOn l s).exposure = s.exposure ∧
    (stepOn l s).intake = s.intake ∧ (stepOn l s).slots = s.slots ∧ (stepOn l s).requests = s.requests ∧
    (stepOn l s).rect = s.rect ∧ (stepOn l s).map.lane = s.map.lane ∧ (stepOn l s).map.sinks = s.map.sinks ∧
    (stepOn l s).map.markers = s.map.markers ∧ (stepOn l s).lateCommits = s.lateCommits ∧
    (stepOn l s).mem = s.mem ∧ (stepOn l s).pending = s.pending := by unfold stepOn; split <;> simp

@[simp] theorem ruleStep_frame (l : LaneId) (s : State) :
    (ruleStep l s).port.mask = s.port.mask ∧ (ruleStep l s).port.anchor = s.port.anchor ∧
    (ruleStep l s).port.config = s.port.config ∧ (ruleStep l s).port.inspection = s.port.inspection ∧
    (ruleStep l s).odo = s.odo ∧ (ruleStep l s).supply = s.supply ∧ (ruleStep l s).exposure = s.exposure ∧
    (ruleStep l s).intake = s.intake ∧ (ruleStep l s).slots = s.slots ∧ (ruleStep l s).requests = s.requests ∧
    (ruleStep l s).rect = s.rect ∧ (ruleStep l s).map.lane = s.map.lane ∧ (ruleStep l s).map.sinks = s.map.sinks ∧
    (ruleStep l s).map.markers = s.map.markers ∧ (ruleStep l s).lateCommits = s.lateCommits ∧
    (ruleStep l s).mem = s.mem ∧ (ruleStep l s).pending = s.pending := by unfold ruleStep; split <;> simp

@[simp] theorem ruleSnap_frame (l : LaneId) (s : State) :
    (ruleSnap l s).port.queues = s.port.queues ∧ (ruleSnap l s).port.mask = s.port.mask ∧
    (ruleSnap l s).port.anchor = s.port.anchor ∧ (ruleSnap l s).port.config = s.port.config ∧
    (ruleSnap l s).odo = s.odo ∧ (ruleSnap l s).supply = s.supply ∧ (ruleSnap l s).trigger = s.trigger ∧
    (ruleSnap l s).exposure = s.exposure ∧ (ruleSnap l s).intake = s.intake ∧ (ruleSnap l s).slots = s.slots ∧
    (ruleSnap l s).requests = s.requests ∧ (ruleSnap l s).rect = s.rect ∧ (ruleSnap l s).map = s.map ∧
    (ruleSnap l s).lateCommits = s.lateCommits ∧ (ruleSnap l s).statusWrites = s.statusWrites ∧
    (ruleSnap l s).doneWrites = s.doneWrites ∧ (ruleSnap l s).mem = s.mem ∧ (ruleSnap l s).pending = s.pending :=
  by unfold ruleSnap; split <;> simp

@[simp] theorem ruleDump_frame (l : LaneId) (s : State) :
    (ruleDump l s).port.queues = s.port.queues ∧ (ruleDump l s).port.mask = s.port.mask ∧
    (ruleDump l s).port.anchor = s.port.anchor ∧ (ruleDump l s).port.config = s.port.config ∧
    (ruleDump l s).lanes = s.lanes ∧ (ruleDump l s).odo = s.odo ∧ (ruleDump l s).supply = s.supply ∧
    (ruleDump l s).trigger = s.trigger ∧ (ruleDump l s).exposure = s.exposure ∧ (ruleDump l s).intake = s.intake ∧
    (ruleDump l s).slots = s.slots ∧ (ruleDump l s).requests = s.requests ∧ (ruleDump l s).rect = s.rect ∧
    (ruleDump l s).map = s.map ∧ (ruleDump l s).lateCommits = s.lateCommits ∧
    (ruleDump l s).statusWrites = s.statusWrites ∧ (ruleDump l s).doneWrites = s.doneWrites ∧
    (ruleDump l s).mem = s.mem ∧ (ruleDump l s).pending = s.pending := by unfold ruleDump; split <;> simp

@[simp] theorem writeAnchor_frame (v : Word) (s : State) :
    (writeAnchor v s).port.queues = s.port.queues ∧ (writeAnchor v s).port.mask = s.port.mask ∧
    (writeAnchor v s).port.inspection = s.port.inspection ∧ (writeAnchor v s).lanes = s.lanes ∧
    (writeAnchor v s).odo = s.odo ∧ (writeAnchor v s).supply = s.supply ∧ (writeAnchor v s).trigger = s.trigger ∧
    (writeAnchor v s).exposure = s.exposure ∧ (writeAnchor v s).intake = s.intake ∧
    (writeAnchor v s).slots = s.slots ∧ (writeAnchor v s).requests = s.requests ∧ (writeAnchor v s).rect = s.rect ∧
    (writeAnchor v s).map = s.map ∧ (writeAnchor v s).lateCommits = s.lateCommits ∧
    (writeAnchor v s).statusWrites = s.statusWrites ∧ (writeAnchor v s).doneWrites = s.doneWrites ∧
    (writeAnchor v s).mem = s.mem ∧ (writeAnchor v s).pending = s.pending := by unfold writeAnchor; split <;> simp

@[simp] theorem writeAttention_frame (v : Word) (s : State) :
    (writeAttention v s).port.queues = s.port.queues ∧ (writeAttention v s).port.anchor = s.port.anchor ∧
    (writeAttention v s).port.config = s.port.config ∧ (writeAttention v s).port.inspection = s.port.inspection ∧
    (writeAttention v s).lanes = s.lanes ∧ (writeAttention v s).odo = s.odo ∧
    (writeAttention v s).supply = s.supply ∧ (writeAttention v s).trigger = s.trigger ∧
    (writeAttention v s).exposure = s.exposure ∧ (writeAttention v s).intake = s.intake ∧
    (writeAttention v s).slots = s.slots ∧ (writeAttention v s).requests = s.requests ∧
    (writeAttention v s).rect = s.rect ∧ (writeAttention v s).map = s.map ∧
    (writeAttention v s).lateCommits = s.lateCommits ∧ (writeAttention v s).statusWrites = s.statusWrites ∧
    (writeAttention v s).doneWrites = s.doneWrites ∧ (writeAttention v s).mem = s.mem ∧
    (writeAttention v s).pending = s.pending :=
  ⟨rfl, rfl, rfl, rfl, rfl, rfl, rfl, rfl, rfl, rfl, rfl, rfl, rfl, rfl, rfl, rfl, rfl, rfl, rfl⟩

@[simp] theorem readAttention_frame (enables : BitVec 4) (s : State) :
    (readAttention enables s).port.queues = s.port.queues ∧ (readAttention enables s).port.mask = s.port.mask ∧
    (readAttention enables s).port.anchor = s.port.anchor ∧ (readAttention enables s).port.config = s.port.config ∧
    (readAttention enables s).port.inspection = s.port.inspection ∧ (readAttention enables s).lanes = s.lanes ∧
    (readAttention enables s).odo = s.odo ∧ (readAttention enables s).supply = s.supply ∧
    (readAttention enables s).trigger = s.trigger ∧ (readAttention enables s).exposure = s.exposure ∧
    (readAttention enables s).intake = s.intake ∧ (readAttention enables s).slots = s.slots ∧
    (readAttention enables s).requests = s.requests ∧ (readAttention enables s).rect = s.rect ∧
    (readAttention enables s).map = s.map ∧ (readAttention enables s).lateCommits = s.lateCommits ∧
    (readAttention enables s).statusWrites = s.statusWrites ∧ (readAttention enables s).doneWrites = s.doneWrites ∧
    (readAttention enables s).mem = s.mem ∧ (readAttention enables s).pending = s.pending :=
  ⟨rfl, rfl, rfl, rfl, rfl, rfl, rfl, rfl, rfl, rfl, rfl, rfl, rfl, rfl, rfl, rfl, rfl, rfl, rfl, rfl⟩

@[simp] theorem orderInvalid_frame (s : State) :
    (orderInvalid s).port.queues = s.port.queues ∧ (orderInvalid s).port.mask = s.port.mask ∧
    (orderInvalid s).port.anchor = s.port.anchor ∧ (orderInvalid s).port.config = s.port.config ∧
    (orderInvalid s).port.inspection = s.port.inspection ∧ (orderInvalid s).lanes = s.lanes ∧
    (orderInvalid s).odo = s.odo ∧ (orderInvalid s).supply = s.supply ∧ (orderInvalid s).trigger = s.trigger ∧
    (orderInvalid s).exposure = s.exposure ∧ (orderInvalid s).intake = s.intake ∧
    (orderInvalid s).slots = s.slots ∧ (orderInvalid s).requests = s.requests ∧ (orderInvalid s).rect = s.rect ∧
    (orderInvalid s).map = s.map ∧ (orderInvalid s).lateCommits = s.lateCommits ∧
    (orderInvalid s).statusWrites = s.statusWrites ∧ (orderInvalid s).doneWrites = s.doneWrites ∧
    (orderInvalid s).mem = s.mem ∧ (orderInvalid s).pending = s.pending :=
  ⟨rfl, rfl, rfl, rfl, rfl, rfl, rfl, rfl, rfl, rfl, rfl, rfl, rfl, rfl, rfl, rfl, rfl, rfl, rfl, rfl⟩

@[simp] theorem statusWriteEffect_frame (q : StatusWrite) (write : WriteEnd) (s : State) :
    (statusWriteEffect q write s).port.queues = s.port.queues ∧
    (statusWriteEffect q write s).port.mask = s.port.mask ∧
    (statusWriteEffect q write s).port.anchor = s.port.anchor ∧
    (statusWriteEffect q write s).port.config = s.port.config ∧
    (statusWriteEffect q write s).port.inspection = s.port.inspection ∧
    (statusWriteEffect q write s).lanes = s.lanes ∧ (statusWriteEffect q write s).odo = s.odo ∧
    (statusWriteEffect q write s).supply = s.supply ∧ (statusWriteEffect q write s).trigger = s.trigger ∧
    (statusWriteEffect q write s).exposure = s.exposure ∧ (statusWriteEffect q write s).intake = s.intake ∧
    (statusWriteEffect q write s).slots = s.slots ∧ (statusWriteEffect q write s).requests = s.requests ∧
    (statusWriteEffect q write s).rect = s.rect ∧ (statusWriteEffect q write s).map = s.map ∧
    (statusWriteEffect q write s).lateCommits = s.lateCommits ∧
    (statusWriteEffect q write s).statusWrites = s.statusWrites ∧
    (statusWriteEffect q write s).doneWrites = s.doneWrites ∧ (statusWriteEffect q write s).pending = s.pending :=
  by unfold statusWriteEffect; split <;> simp

end Sys2Proof.Machine
end

