-- ==== Sys2Proof/Laws/Patch.lean ====
section
/-! SUPPORT. Frames of the patch steps: what each leaves as it was, one lemma for each operation. -/

namespace Sys2Proof.Machine

@[simp] theorem joinWaiters_frame (l : LaneId) (w : StepWord) (s : State) :
    (joinWaiters l w s).port.mask = s.port.mask ∧ (joinWaiters l w s).port.anchor = s.port.anchor ∧
    (joinWaiters l w s).port.config = s.port.config ∧ (joinWaiters l w s).port.inspection = s.port.inspection ∧
    (joinWaiters l w s).odo.p = s.odo.p ∧ (joinWaiters l w s).odo.w1 = s.odo.w1 ∧
    (joinWaiters l w s).odo.w2 = s.odo.w2 ∧ (joinWaiters l w s).odo.mode1 = s.odo.mode1 ∧
    (joinWaiters l w s).odo.mode2 = s.odo.mode2 ∧ (joinWaiters l w s).supply = s.supply ∧
    (joinWaiters l w s).intake.slotCount = s.intake.slotCount ∧ (joinWaiters l w s).intake.ws = s.intake.ws ∧
    (joinWaiters l w s).intake.hs = s.intake.hs ∧ (joinWaiters l w s).requests = s.requests ∧
    (joinWaiters l w s).rect = s.rect ∧ (joinWaiters l w s).map.lane = s.map.lane ∧
    (joinWaiters l w s).map.sinks = s.map.sinks ∧ (joinWaiters l w s).map.markers = s.map.markers ∧
    (joinWaiters l w s).lateCommits = s.lateCommits ∧ (joinWaiters l w s).pending = s.pending :=
  by unfold joinWaiters; (repeat' split) <;> simp

@[simp] theorem takeExpose_frame (l : LaneId) (w : StepWord) (s : State) :
    (takeExpose l w s).port.mask = s.port.mask ∧ (takeExpose l w s).port.anchor = s.port.anchor ∧
    (takeExpose l w s).port.config = s.port.config ∧ (takeExpose l w s).port.inspection = s.port.inspection ∧
    (takeExpose l w s).odo.p = s.odo.p ∧ (takeExpose l w s).odo.w1 = s.odo.w1 ∧
    (takeExpose l w s).odo.w2 = s.odo.w2 ∧ (takeExpose l w s).odo.mode1 = s.odo.mode1 ∧
    (takeExpose l w s).odo.mode2 = s.odo.mode2 ∧ (takeExpose l w s).supply = s.supply ∧
    (takeExpose l w s).intake.slotCount = s.intake.slotCount ∧ (takeExpose l w s).intake.ws = s.intake.ws ∧
    (takeExpose l w s).intake.hs = s.intake.hs ∧ (takeExpose l w s).requests = s.requests ∧
    (takeExpose l w s).rect = s.rect ∧ (takeExpose l w s).map.lane = s.map.lane ∧
    (takeExpose l w s).map.sinks = s.map.sinks ∧ (takeExpose l w s).map.markers = s.map.markers ∧
    (takeExpose l w s).lateCommits = s.lateCommits ∧ (takeExpose l w s).pending = s.pending :=
  by unfold takeExpose; split <;> simp

@[simp] theorem bindSlot_frame (l : LaneId) (w : StepWord) (i : Nat) (s : State) :
    (bindSlot l w i s).port = s.port ∧ (bindSlot l w i s).odo = s.odo ∧ (bindSlot l w i s).supply = s.supply ∧
    (bindSlot l w i s).trigger = s.trigger ∧ (bindSlot l w i s).exposure = s.exposure ∧
    (bindSlot l w i s).intake = s.intake ∧ (bindSlot l w i s).requests = s.requests ∧
    (bindSlot l w i s).rect = s.rect ∧ (bindSlot l w i s).map = s.map ∧
    (bindSlot l w i s).lateCommits = s.lateCommits ∧ (bindSlot l w i s).statusWrites = s.statusWrites ∧
    (bindSlot l w i s).mem = s.mem ∧ (bindSlot l w i s).pending = s.pending := by unfold bindSlot; split <;> simp

@[simp] theorem takeKeep_frame (l : LaneId) (w : StepWord) (s : State) :
    (takeKeep l w s).port = s.port ∧ (takeKeep l w s).odo = s.odo ∧ (takeKeep l w s).supply = s.supply ∧
    (takeKeep l w s).trigger = s.trigger ∧ (takeKeep l w s).exposure = s.exposure ∧
    (takeKeep l w s).intake = s.intake ∧ (takeKeep l w s).requests = s.requests ∧ (takeKeep l w s).rect = s.rect ∧
    (takeKeep l w s).map = s.map ∧ (takeKeep l w s).lateCommits = s.lateCommits ∧
    (takeKeep l w s).statusWrites = s.statusWrites ∧ (takeKeep l w s).mem = s.mem ∧
    (takeKeep l w s).pending = s.pending := by unfold takeKeep; (repeat' split) <;> simp

@[simp] theorem takeRender_frame (l : LaneId) (w : StepWord) (s : State) :
    (takeRender l w s).port = s.port ∧ (takeRender l w s).odo = s.odo ∧ (takeRender l w s).supply = s.supply ∧
    (takeRender l w s).trigger = s.trigger ∧ (takeRender l w s).exposure = s.exposure ∧
    (takeRender l w s).intake = s.intake ∧ (takeRender l w s).slots = s.slots ∧ (takeRender l w s).rect = s.rect ∧
    (takeRender l w s).map = s.map ∧ (takeRender l w s).lateCommits = s.lateCommits ∧
    (takeRender l w s).statusWrites = s.statusWrites ∧ (takeRender l w s).mem = s.mem ∧
    (takeRender l w s).pending = s.pending := by unfold takeRender; split <;> simp

end Sys2Proof.Machine
end

