-- ==== Sys2Proof/Laws/RenderContext.lean ====
section
/-! SUPPORT. Frames of the context operations: what each leaves as it was, one lemma for each operation. -/

namespace Sys2Proof.Machine

@[simp] theorem setContext_frame (l : LaneId) (f : Context → Context) (s : State) :
    (setContext l f s).port = s.port ∧ (setContext l f s).odo = s.odo ∧ (setContext l f s).supply = s.supply ∧
    (setContext l f s).trigger = s.trigger ∧ (setContext l f s).exposure = s.exposure ∧
    (setContext l f s).intake = s.intake ∧ (setContext l f s).slots = s.slots ∧
    (setContext l f s).requests = s.requests ∧ (setContext l f s).rect = s.rect ∧ (setContext l f s).map = s.map ∧
    (setContext l f s).lateCommits = s.lateCommits ∧ (setContext l f s).statusWrites = s.statusWrites ∧
    (setContext l f s).doneWrites = s.doneWrites ∧ (setContext l f s).mem = s.mem ∧
    (setContext l f s).pending = s.pending :=
  ⟨rfl, rfl, rfl, rfl, rfl, rfl, rfl, rfl, rfl, rfl, rfl, rfl, rfl, rfl, rfl⟩

@[simp] theorem startTableRead_frame (l : LaneId) (needsGeometry : Bool) (len : Nat) (w : StepWord) (s : State) :
    (startTableRead l needsGeometry len w s).port = s.port ∧ (startTableRead l needsGeometry len w s).odo = s.odo ∧
    (startTableRead l needsGeometry len w s).supply = s.supply ∧
    (startTableRead l needsGeometry len w s).trigger = s.trigger ∧
    (startTableRead l needsGeometry len w s).exposure = s.exposure ∧
    (startTableRead l needsGeometry len w s).intake = s.intake ∧
    (startTableRead l needsGeometry len w s).slots = s.slots ∧
    (startTableRead l needsGeometry len w s).requests = s.requests ∧
    (startTableRead l needsGeometry len w s).rect = s.rect ∧ (startTableRead l needsGeometry len w s).map = s.map ∧
    (startTableRead l needsGeometry len w s).lateCommits = s.lateCommits ∧
    (startTableRead l needsGeometry len w s).statusWrites = s.statusWrites ∧
    (startTableRead l needsGeometry len w s).mem = s.mem ∧
    (startTableRead l needsGeometry len w s).pending = s.pending :=
  by unfold startTableRead; (repeat' split) <;> simp

end Sys2Proof.Machine
end

