-- ==== Sys2Proof/Laws/Resets.lean ====
section
/-! SUPPORT. Frames of the settings load: what each leaves as it was, one lemma for each operation. -/

namespace Sys2Proof.Machine

@[simp] theorem State.withLoadResult_frame (s : State) (c : ConfigState) (code : Nat) :
    (s.withLoadResult c code).port.queues = s.port.queues ∧ (s.withLoadResult c code).port.mask = s.port.mask ∧
    (s.withLoadResult c code).port.anchor = s.port.anchor ∧
    (s.withLoadResult c code).port.inspection = s.port.inspection ∧ (s.withLoadResult c code).lanes = s.lanes ∧
    (s.withLoadResult c code).odo = s.odo ∧ (s.withLoadResult c code).supply = s.supply ∧
    (s.withLoadResult c code).trigger = s.trigger ∧ (s.withLoadResult c code).exposure = s.exposure ∧
    (s.withLoadResult c code).intake = s.intake ∧ (s.withLoadResult c code).slots = s.slots ∧
    (s.withLoadResult c code).requests = s.requests ∧ (s.withLoadResult c code).rect = s.rect ∧
    (s.withLoadResult c code).map = s.map ∧ (s.withLoadResult c code).lateCommits = s.lateCommits ∧
    (s.withLoadResult c code).statusWrites = s.statusWrites ∧ (s.withLoadResult c code).doneWrites = s.doneWrites ∧
    (s.withLoadResult c code).mem = s.mem ∧ (s.withLoadResult c code).pending = s.pending :=
  ⟨rfl, rfl, rfl, rfl, rfl, rfl, rfl, rfl, rfl, rfl, rfl, rfl, rfl, rfl, rfl, rfl, rfl, rfl, rfl⟩

@[simp] theorem takeSettings_frame (c : Settings) (s : State) :
    (takeSettings c s).port = s.port ∧ (takeSettings c s).odo = s.odo ∧
    (takeSettings c s).supply.state = s.supply.state ∧ (takeSettings c s).trigger = s.trigger ∧
    (takeSettings c s).exposure.inFlight = s.exposure.inFlight ∧ (takeSettings c s).requests = s.requests ∧
    (takeSettings c s).rect = s.rect ∧ (takeSettings c s).map = s.map ∧
    (takeSettings c s).lateCommits = s.lateCommits ∧ (takeSettings c s).statusWrites = s.statusWrites ∧
    (takeSettings c s).doneWrites = s.doneWrites ∧ (takeSettings c s).mem = s.mem ∧
    (takeSettings c s).pending = s.pending := ⟨rfl, rfl, rfl, rfl, rfl, rfl, rfl, rfl, rfl, rfl, rfl, rfl, rfl⟩

@[simp] theorem applySettings_frame (c : Settings) (timers : List (Edge × Nat)) (s : State) :
    (applySettings c timers s).port.queues = s.port.queues ∧ (applySettings c timers s).port.mask = s.port.mask ∧
    (applySettings c timers s).port.anchor = s.port.anchor ∧
    (applySettings c timers s).port.inspection = s.port.inspection ∧
    (applySettings c timers s).supply.state = s.supply.state ∧ (applySettings c timers s).requests = s.requests ∧
    (applySettings c timers s).rect = s.rect ∧ (applySettings c timers s).map = s.map ∧
    (applySettings c timers s).lateCommits = s.lateCommits ∧
    (applySettings c timers s).statusWrites = s.statusWrites ∧
    (applySettings c timers s).doneWrites = s.doneWrites ∧ (applySettings c timers s).pending = s.pending :=
  by simp [applySettings]

end Sys2Proof.Machine
end

