-- ==== Sys2Proof/Tests/Slice0.lean ====
section
/-! SUPPORT. Tests: ill-formed commands refused by name, the spec's worked examples, small checks of single commands, and for each
statement with hypotheses a state and operands that meet them, clause by clause. -/

namespace Sys2Proof.Tests

open Sys2Proof Sys2Proof.Machine

/-! ## Ill-formed commands -/

theorem test_formError_writeTaken : (Instr.registerWriteIgnored 8 0xF 0).formError = some .writeTaken := by decide
theorem test_formError_orderValid : (Instr.invalidOrder 3 1).formError = some .orderValid := by decide
theorem test_formError_byteKnown : (Instr.unknownByte 0xF1).formError = some .byteKnown := by decide
theorem test_formError_writeCount : (Instr.snapWriteEnd 61 .landed).formError = some .writeCount := by decide
theorem test_formError_storeAddress : (Instr.boardReset [(2 ^ 32, 1)]).formError = some .storeAddress := by decide
theorem test_formError_timerTwice :
    (Instr.settingsLoadEnd .faulted [(.single .dir, 1), (.single .dir, 2)]).formError = some .timerTwice := by decide

/-- No row of the table gives bits (log 29). -/
theorem test_decode_no_bits : decodeTableWord 8 0x21 = none := by decide

/-- ORDER words written out from the table of 1.1: the order code in bits 15:8, the lane in bits 2:0, other bits ignored. -/
theorem test_decode_orders :
    decodeOrder 0x0102 = .start 2 ∧ decodeOrder 0x0203 = .resume 3 ∧ decodeOrder 0x0300 = .halt 0 ∧ decodeOrder 0x0401 = .clear 1
      ∧ decodeOrder 0x0502 = .take 2 ∧ decodeOrder 0x0603 = .hold 3 ∧ decodeOrder 0x0700 = .stepOrder 0 ∧ decodeOrder 0x0801 = .go 1
      ∧ decodeOrder 0xFFFF09FA = .snap 2 ∧ decodeOrder 0x0A03 = .dump 3 := by decide

/-- Order codes 0 and 11 and lane field 4 name no order (R2). -/
theorem test_decode_invalid :
    decodeOrder 0x0003 = .invalidOrder 3 0 ∧ decodeOrder 0x0B03 = .invalidOrder 3 11 ∧ decodeOrder 0x0104 = .invalidOrder 4 1 := by
  decide

/-- Writes to the window (R1): ANCHOR at 04H, ORDER at 08H, ATTENTION at 10H; IDENT, a partial write and 14H are ignored. -/
theorem test_decode_writes :
    decodeWrite 0x04 0xF 0x100 = .anchor 0x100 ∧ decodeWrite 0x08 0xF 0x0102 = .start 2 ∧ decodeWrite 0x10 0xF 3 = .attentionWrite 3
      ∧ decodeWrite 0x00 0xF 1 = .registerWriteIgnored 0x00 0xF 1 ∧ decodeWrite 0x08 0x7 0x0102 = .registerWriteIgnored 0x08 0x7 0x0102
      ∧ decodeWrite 0x14 0xF 1 = .registerWriteIgnored 0x14 0xF 1 := by decide

/-! ## The spec's worked examples -/

/-- The table of worked levels (04, after R56): LED cap 120, time ceiling 600. -/
theorem test_levels_table :
    usedLevels true 120 600 200 400 = ⟨120, 600, true, true⟩ ∧ compensation 200 400 120 600 = 4551
      ∧ usedLevels true 120 600 200 300 = ⟨120, 500, true, false⟩ ∧ compensation 200 300 120 500 = 4096
      ∧ usedLevels true 120 600 100 400 = ⟨100, 400, false, false⟩ ∧ compensation 100 400 100 400 = 4096
      ∧ usedLevels true 120 600 100 800 = ⟨100, 600, true, true⟩ ∧ compensation 100 800 100 600 = 5461
      ∧ usedLevels true 120 600 255 2000 = ⟨120, 600, true, true⟩ ∧ compensation 255 2000 120 600 = 16383 := by decide

/-- Windows of R135 and of chapter 9's example: z_near 200,000, z_far 700,000, row pitch 1,000. -/
def exampleMap : WallMap := { WallMap.reset with lane := some 0, width := 1024, zNear := 200000, zFar := 700000, rowPitch := 1000,
                                                 glareWeight := 200 }

theorem test_windows :
    windowFirst exampleMap (-49) = 200 ∧ windowFirst exampleMap (-1234570) = -1034 ∧ windowFirst exampleMap 1234570 = 1435
      ∧ windowLast exampleMap 1234570 = 1934 ∧ windowFirst exampleMap 1284570 = 1485 ∧ windowLast exampleMap 1284570 = 1984 := by
  decide

/-- Scores of rows 1,600 and 1,700 in chapter 9's example. -/
theorem test_scores :
    rowScore exampleMap 365430 0 = 365430 ∧ rowScore exampleMap 315430 300 = 375430 ∧ rowScore exampleMap 465430 0 = 465430
      ∧ rowScore exampleMap 415430 200 = 455430 := by decide

/-- P at K 3,200,000 for the two exposures of chapter 9's example (R46). -/
theorem test_position :
    positionUm { Odometer.reset lowPins with p := 25284, scale := 3200000 } = 1234570
      ∧ positionUm { Odometer.reset lowPins with p := 26308, scale := 3200000 } = 1284570 := by decide

/-- Window depths of R92's table. -/
theorem test_window_depths :
    ceilDiv (700000 - 200000) 1000 = 500 ∧ ceilDiv (700000 - 200000) 900 = 556 ∧ ceilDiv (1224000 - 200000) 2000 = 512
      ∧ ceilDiv (1224001 - 200000) 2000 = 513 := by decide

/-- The two-wheel example of chapter 3: slip limit 3, both wheels in QUAD, counts from 100. -/
def twoWheels : Odometer :=
  { Odometer.reset lowPins with mode1 := .quad, mode2 := .quad, slipLimit := 3, w1 := 100, w2 := 100, p := 100 }

theorem test_two_wheels :
    let o := countWheel .one 1 (countWheel .one 1 (countWheel .one 1 (countWheel .one 1 (countWheel .two 1 (countWheel .one 1
      twoWheels)))))
    let back := countWheel .one (-1) (countWheel .one (-1) (countWheel .two (-1) o))
    (o.w1, o.w2, o.p, o.slipCount, o.slipFlag) = (105, 105, 105, 1, true)
      ∧ (back.w1, back.w2, back.p, back.slipCount) = (103, 104, 103, 1) := by decide

/-- A pair of pixels, 0xABC and 0x123, in the three bytes of R68's table. -/
theorem test_unpackPixels : unpackPixels [0xBC, 0x3A, 0x12] = [0xABC, 0x123] := by decide

/-- The check value of the CRC of R70: the nine ASCII digits from 1 give 0x29B1. -/
theorem test_crc16 : crc16 [0x31, 0x32, 0x33, 0x34, 0x35, 0x36, 0x37, 0x38, 0x39] = 0x29B1 := by decide +kernel

/-- Entries of the sine table (R100). -/
theorem test_sine :
    sine 0 = 0 ∧ sine 1 = 50 ∧ sine 256 = 12539 ∧ sine 512 = 23170 ∧ sine 768 = 30273 ∧ sine 1024 = 32767 ∧ sine 2048 = 0
      ∧ sine 3072 = -32767 ∧ sine 4095 = -50 ∧ cosine 0 = 32767 ∧ cosine 2048 = -32767 := by decide +kernel

/-- The worked geometry (chapters 6 to 8). -/
def workedGeometry : Geometry :=
  { radius := 500000, ex := 0, ey := -100000, roll := 0, width := 1024, zNear := 200000, zFar := 700000, rowPitch := 1000
    glareWeight := 200, cx := 10240, cy := 8192, ws := 1280, hs := 1024, dRef := 500000, baseGain := 2048, gainLimit := 16384
    glareCode := 255, outCode := 0 }

/-- The column table of the worked geometry (7.3). -/
theorem test_columns :
    columnEntry workedGeometry ⟨0, -100000, 0⟩ 0 = ⟨0, 0, 599985, 599985⟩
      ∧ columnEntry workedGeometry ⟨0, -100000, 0⟩ 256 = ⟨1024, 499985, 100000, 509887⟩
      ∧ columnEntry workedGeometry ⟨0, -100000, 0⟩ 512 = ⟨2048, 0, -399985, 399985⟩
      ∧ columnEntry workedGeometry ⟨0, -100000, 0⟩ 768 = ⟨3072, -499985, 100000, 509887⟩ := by decide +kernel

/-- The worked pixel, first half (chapter 7), with the example lens entries around it. -/
def workedContext : Context :=
  { Context.reset with
    geometry := workedGeometry
    lens := List.replicate 117 (0, 0) ++ [(7360, 4200), (7424, 4210)] ++ List.replicate 8 (0, 0) ++ [(8000, 4300), (8064, 4310)] }

theorem test_worked_mapping :
    lensRatio 599985 600000 = 32767 ∧ lensRatio 509887 600000 = 30107
      ∧ mapPixel workedContext ⟨0, 0, 599985, 599985⟩ 600000 = ⟨10240, 128, 4310⟩
      ∧ mapPixel workedContext ⟨1024, 499985, 100000, 509887⟩ 600000 = ⟨17495, 6741, 4206⟩
      ∧ mapPixel workedContext ⟨3072, -499985, 100000, 509887⟩ 600000 = ⟨2985, 6741, 4206⟩ := by decide +kernel

/-- The worked pixel, second half (chapter 8): columns 0 and 256. -/
theorem test_worked_gain :
    bilinear ⟨1000, 1012, 996, 1020⟩ 0 0 = 1000 ∧ wallDistance 599985 600000 = 848517
      ∧ tangentDistance ⟨0, 0, 599985, 599985⟩ = 599967 ∧ geometricGain 848517 599967 500000 = 1040
      ∧ gainChain 1040 4310 4096 4096 2048 = 547
      ∧ bilinear ⟨812, 820, 806, 830⟩ 7 5 = 816 ∧ wallDistance 509887 600000 = 787391
      ∧ tangentDistance ⟨1024, 499985, 100000, 509887⟩ = 499970 ∧ geometricGain 787391 499970 500000 = 998
      ∧ gainChain 998 4206 4160 4096 2048 = 521 := by decide +kernel

/-- Cases B, C and D of the edges of the chain (chapter 8). -/
theorem test_edges :
    inField (neighbourhood 20464 128) 1280 1024 = false ∧ inField (neighbourhood 20463 128) 1280 1024 = true
      ∧ gainChain 1040 4310 4096 16383 8192 = 8752 ∧ gainChain 1040 4310 0 4096 2048 = 0
      ∧ tonePixel { workedContext with geometry := { workedGeometry with gainLimit := 4096 } } 1000 8752 = .toned 0 true true := by
  decide +kernel

/-- The stride for 1280 by 1024 (R5, R76). -/
theorem test_stride : slotStride 1280 1024 = 2625536 := by decide

/-- The sag of chapter 4's example: derate code 4, cutoff code 2; samples in millivolts. -/
theorem test_sag :
    let run (m : Supply) (mv : Nat) := m.sample (bandOf m mv)
    let m : Supply := { state := .normal, good := 0, derateCode := 4, cutoffCode := 2 }
    let low := [21200, 19600, 20700, 20600].foldl run m
    let cut := [20300, 16800, 17600, 17800, 17400].foldl run low
    (low.state, low.good) = (.derate, 2) ∧ (cut.state, cut.good) = (.cutoff, 0)
      ∧ [17600, 17700, 17800, 18100].foldl run cut = { m with state := .derate } := by decide

/-! ## Small checks of single commands -/

/-- A configured part, every lane IDLE. -/
def configured : State := { State.reset with port := { Port.reset with config := .configured } }

/-- `configured` with lane 0 as `f` makes it. -/
def laneZero (f : Lane → Lane) : State := { configured with lanes := configured.lanes.set 0 (f Lane.reset) }

/-- Lane 0 in this state and at this stage. -/
def atStage (st : LaneState) (sg : Stage) : State := laneZero fun x => { x with state := st, stage := sg }

/-- A step word with no flags. -/
def word (code : Byte) (operands : List Byte) : StepWord := ⟨code, 0, operands⟩

/-- Lane 0 about to take this step. -/
def taking (w : StepWord) : State := atStage .running (.take w)

/-- The state that a command leaves; the state before it where it stops. -/
def after (c : Instr) (s : State) : State := match exec c s with
  | .next t => t
  | _ => s

/-- RESULT after START of an IDLE lane (R7), and of a lane that is not IDLE (R7: BUSY). -/
theorem test_start_accepted :
    (match exec (.start 0) configured with | .next t => (t.port.result, (t.lane 0).state, t.lane 1) | _ => (.invalid, .idle, Lane.reset))
      = (.accepted, .starting, Lane.reset) := by decide
theorem test_start_busy : (match exec (.start 0) (atStage .running .fetch) with | .next t => t.port.result | _ => .invalid) = .busy := by
  decide

/-- ATTENTION after two raises in different classes: next lane is the lowest class's (R18's example order). -/
theorem test_attention_order :
    let s := laneZero fun x => { x with cls := 1 }
    let t := raiseAlert 1 (raiseAlert 0 { s with port := { s.port with mask := 3 } })
    attentionWord t = 0x00030013 := by decide

/-- An anchor that is not a multiple of 256 loses its low byte (R4). -/
theorem test_anchor_low_byte :
    (match exec (.anchor 0x12345678) State.reset with | .next t => (readRegister t 4, t.port.config) | _ => (0, .unconfigured))
      = (0x12345600, .loading) := by decide

/-- JUMP to 0x40 (R29) and to 0x44 (refused OPERAND, R29). -/
theorem test_jump_target :
    (match exec (.jump 0) (taking (word 0x20 [0x40, 0, 0, 0])) with | .next t => (t.lane 0).stage | _ => .rest)
      = .doneWrite (.jump 0x40) := by decide
theorem test_jump_misaligned :
    (match exec (.jump 0) (taking (word 0x20 [0x44, 0, 0, 0])) with | .next t => (t.lane 0).stage | _ => .rest)
      = .doneWrite (.check .operand) := by decide

/-- An order given before power-on configuration (R2). -/
theorem test_unconfigured : (match exec (.start 2) State.reset with | .next t => t.port.result | _ => .invalid) = .unconfigured := by
  decide

/-- An internal event with no cause does not occur (log 6). -/
theorem test_event_not_due : exec .readoutTimeout State.reset = .refused .eventNotDue := rfl

/-- Memory keeps its canonical form when zeros are written over a byte (log 1). -/
theorem test_memory_canonical : Memory.write (Memory.write [] 0x10 [5, 6]) 0x10 [0, 7] = [(0x11, 7)] := by decide

/-- KEEP with no candidate (R167), and MARK before the first frame: first row (R149). -/
theorem test_keep_nothing :
    (match exec (.keep 0) (taking (word 0x11 [3])) with | .next t => (t.lane 0).stage | _ => .rest)
      = .doneWrite (.check .nothingToKeep) := by decide

/-- `configured` with the map bound to lane 0 and lane 0 in this state and stage. -/
def surveying (st : LaneState) (sg : Stage) : State := { atStage st sg with map := exampleMap }

theorem test_mark_first_row :
    (match exec (.mark 0) (surveying .running (.take (word 0x0A [117, 0, 0, 0]))) with | .next t => t.map.markers | _ => [])
      = [⟨117, none⟩] := by decide

/-- SINK A of chapter 9's example: capacity 40 at 0x1000; its step ends at once and the lane fetches the next (R27, R144). -/
theorem test_sink_joins :
    (match exec (.sink 0) (surveying .running (.take (word 0x09 [0, 0x10, 0, 0, 40, 0]))) with
      | .next t => (t.map.sinks, (t.lane 0).stage, (t.lane 0).programAddr)
      | _ => ([], .rest, 0)) = ([⟨0, 0x1000, 40, 0, 0, false⟩], .fetch, 32) := by decide

/-- A supply tick in NORMAL takes no sample (R64). -/
theorem test_tick_normal : (match exec (.supplyTick 0) configured with | .next t => t.supply.state | _ => .cutoff) = .normal := by
  decide

/-! ## Witnesses: hypotheses of the statements, met -/

/-- The port free and configured. -/
theorem witness_OrdersRun : OrdersRun configured := by decide

theorem witness_StepRunsFront : State.reset.pending = [] := by decide

theorem witness_CommandsLeaveQueue : ∃ t, exec (.inputPinChange .dir true) { configured with pending := [.jump 1] } = .next t :=
  ⟨_, rfl⟩

/-- A status record write of lane `l` in flight. -/
def recordWrite (l : LaneId) : StatusWrite := ⟨l, 0x120, zeros 64⟩

theorem witness_PortHoldsAccesses :
    (IsAccess (.take 3) ∧ WellFormed (.take 3)) ∧ ({ configured with statusWrites := [recordWrite 1] }).statusWrites ≠ []
      ∧ ({ configured with statusWrites := [recordWrite 1], port := { configured.port with held := [.take 3] } }).port.held
          = [.take 3] := ⟨⟨.take 3, by decide⟩, by decide, by decide⟩

theorem witness_StatusRecordWriteEnds :
    let s := { configured with statusWrites := [recordWrite 1, recordWrite 0, recordWrite 1] }
    s.statusWrites = [recordWrite 1] ++ recordWrite 0 :: [recordWrite 1] ∧ (∀ p ∈ [recordWrite 1], p.lane ≠ (recordWrite 0).lane)
      ∧ s.port.held = [] ∧ OutsideOf 0x120 64 0x160 ∧ OutsideOf 0x120 64 0x11F := by decide

/-- The port's held access has its effect when the write before it ends by a fault, which sets the record-fault flag. -/
theorem witness_PortHoldsAccesses_faulted :
    let s := { configured with statusWrites := [recordWrite 1], port := { configured.port with held := [.hold 3] } }
    let t := after (.statusRecordWriteEnd 1 (.faulted [])) s
    t.port.result = .busy ∧ t.port.recordFault = true ∧ t.port.held = [] ∧ t.statusWrites = [] := by decide

/-- RESULT with result BUSY, configured, settings error 12, saturated, an exposure in flight and CUTOFF. -/
theorem test_result_word :
    readRegister { configured with
      port := { configured.port with result := .busy, settingsError := 12 }, odo := { configured.odo with saturated := true }
      exposure := { configured.exposure with inFlight := some 0 }, supply := { configured.supply with state := .cutoff } } 0x0C
      = 0x000B0C22 := by decide

theorem witness_PortScreening :
    PortFree configured ∧ ignoredWrite 4 0xE ∧ ignoredWrite 31 0xF ∧ ignoredWrite 0 0xF ∧ invalidOrderFields 4 1
      ∧ invalidOrderFields 3 0 ∧ invalidOrderFields 0 11
      ∧ ({ configured.port with config := .loading }).config = .loading ∧ IsConfiguredOrder 3 (.dump 3)
      ∧ PortFree State.reset ∧ State.reset.port.config = .unconfigured
      ∧ (0x0A03 : Word).extractLsb' 0 3 = BitVec.ofNat 3 (3 : LaneId).val ∧ (0x0A03 : Word).extractLsb' 8 8 = BitVec.ofNat 8 10
      ∧ (0x0102 : Word).extractLsb' 0 3 = BitVec.ofNat 3 (2 : LaneId).val ∧ (0x0102 : Word).extractLsb' 8 8 = BitVec.ofNat 8 1
      ∧ (4 : BitVec 5).toNat / 4 = 1 ∧ (11 : BitVec 5).toNat / 4 = 2 ∧ (16 : BitVec 5).toNat / 4 = 4 := by decide

theorem witness_AnchorWrite :
    PortFree configured
      ∧ (configured.port.config ≠ .loading ∧ (∀ l, (configured.lane l).state = .idle) ∧ configured.exposure.inFlight = none)
      ∧ ¬ ((atStage .running .fetch).port.config ≠ .loading ∧ (∀ l, ((atStage .running .fetch).lane l).state = .idle)
        ∧ (atStage .running .fetch).exposure.inFlight = none) := by decide

theorem witness_AttentionWrite :
    PortFree configured ∧ (∃ t, exec (.powerOn lowPins) configured = .next t) ∧ ∃ t, exec (.boardReset []) configured = .next t :=
  ⟨by decide, ⟨_, rfl⟩, ⟨_, rfl⟩⟩

/-- Lane 3 alone in the queue of class 1, both classes enabled. -/
def oneQueued : State := { configured with port := { configured.port with mask := 3, queues := ⟨[], [3], [], []⟩ } }

theorem witness_AttentionRead :
    PortFree oneQueued ∧ (∀ c : LaneId, configured.port.mask.getLsbD c.val = true → configured.port.queues.get c = [])
      ∧ oneQueued.port.mask.getLsbD 1 = true ∧ oneQueued.port.queues.get 1 = 3 :: []
      ∧ (∀ d : LaneId, d < 1 → oneQueued.port.mask.getLsbD d.val = true → oneQueued.port.queues.get d = [])
      ∧ (0x8 : BitVec 4) ≠ 0 ∧ (0x8 : BitVec 4).getLsbD (3 : Fin 4).val = true := by decide

theorem witness_StartAndResumeOrders :
    (OrdersRun (laneZero fun x => { x with statusPending := true }) ∧ (Lane.reset).state = .idle)
      ∧ OrdersRun (atStage .suspended .rest) ∧ ((atStage .suspended .rest).lane 0).statusPending = false
      ∧ OrdersRun (atStage .starting .blockRead) ∧ ((atStage .starting .blockRead).lane 0).resumePending = false
      ∧ OrdersRun (atStage .running (.doneWrite .stop)) ∧ ((atStage .running (.doneWrite .stop)).lane 0).stage = .doneWrite .stop
      ∧ OrdersRun (atStage .running .fetch) ∧ ((atStage .running .fetch).lane 0).stage ≠ .doneWrite .stop
      ∧ OrdersRun (laneZero fun x => { x with state := .held, resumePending := true })
      ∧ OrdersRun (atStage .draining .rest) := by decide

theorem witness_HaltOrder :
    OrdersRun (atStage .held .boundary) ∧ OrdersRun (atStage .running .boundary)
      ∧ OrdersRun (atStage .running (.tagged (word 6 []))) ∧ OrdersRun (atStage .running (.sinkWait (word 9 [])))
      ∧ OrdersRun (atStage .running (.markWait (word 10 []))) ∧ OrdersRun (atStage .running (.exposeWait (word 16 [])))
      ∧ OrdersRun (atStage .running (.doneWrite .stop))
      ∧ OrdersRun (atStage .starting .fetch) ∧ ((atStage .starting .fetch).lane 0).haltPending = false
      ∧ ((atStage .starting .fetch).lane 0).stage ≠ .doneWrite .stop
      ∧ (∀ w, ((atStage .starting .fetch).lane 0).stage ≠ .tagged w ∧ ((atStage .starting .fetch).lane 0).stage ≠ .sinkWait w
        ∧ ((atStage .starting .fetch).lane 0).stage ≠ .markWait w ∧ ((atStage .starting .fetch).lane 0).stage ≠ .exposeWait w)
      ∧ OrdersRun (laneZero fun x => { x with state := .running, haltPending := true }) ∧ OrdersRun (atStage .clearing .rest) :=
  ⟨by decide, by decide, by decide, by decide, by decide, by decide, by decide, by decide, by decide, by decide,
    fun _ => ⟨nofun, nofun, nofun, nofun⟩, by decide, by decide⟩

theorem witness_ClearOrder :
    OrdersRun (atStage .clearing .rest) ∧ OrdersRun (surveying .running (.renderWait (word 0x12 [])))
      ∧ (surveying .running (.renderWait (word 0x12 []))).map.lane = some 0
      ∧ ({ configured with exposure := { Exposure.reset with inFlight := some 2 } }).exposure.inFlight.isSome = true := by decide

/-- CLEAR of a lane whose END waits, a full sink and a marker queued, nobody waiting for the head: the words of the step and of the
sink are written ABANDONED, the sink's with its rows (R36, R157), and the lane is CLEARING. -/
theorem witness_ClearOrder_words :
    let s : State := { surveying .running (.endWait (word 0x0B [])) with
      map := { exampleMap with ending := .endTaken, sinks := [⟨0x40, 0x1000, 2, 2, 7, true⟩], markers := [⟨117, some 7⟩] } }
    let t := after (.clear 0) s
    OrdersRun s ∧ headWaiters s = [] ∧ headWaiters t = [] ∧ (t.lane 0).state = .clearing ∧ t.map.lane = none
      ∧ t.doneWrites = [⟨0, 0, .abandoned, zeros 12, false, .clearing⟩,
        ⟨0, 0x40, .abandoned, [7, 0, 0, 0, 2, 0, 0, 0, 0, 0, 0, 0], true, .clearing⟩] := by decide

theorem witness_TakeOrder :
    PortFree configured ∧ configured.port.config ≠ .loading ∧ (configured.lane 0).statusPending = false
      ∧ ((laneZero fun x => { x with statusPending := true }).lane 0).statusPending = true
      ∧ PortFree { configured with port := { configured.port with config := .loading } } := by decide

theorem witness_HoldOrders :
    let permitted := laneZero fun x => { x with state := .running, options := { holdPermit := true } }
    let held (p : HoldPosition) (sg : Stage) := laneZero fun x => { x with state := .held, holdPosition := some p, stage := sg }
    (OrdersRun permitted ∧ (permitted.lane 0).options.holdPermit = true ∧ (permitted.lane 0).holdPending = false
        ∧ (permitted.lane 0).haltPending = false ∧ (permitted.lane 0).stage ≠ .doneWrite .stop)
      ∧ OrdersRun (laneZero fun x => { x with state := .running, holdPending := true })
      ∧ OrdersRun (laneZero fun x => { x with state := .running, holdPending := true, stage := .doneWrite .stop })
      ∧ OrdersRun (held .boundary .boundary) ∧ OrdersRun (held .tagged (.tagged (word 6 [])))
      ∧ OrdersRun (held .suspended .rest) ∧ ((held .suspended .rest).lane 0).resumePending = false := by decide

/-- A step word with these first two bytes. -/
def stepBytes (code flags : Byte) : StepWord := StepWord.ofBytes ([code, flags] ++ zeros 30)

/-- Lane 0 HELD at the tag of a step that suspends, its survey frame READY and asked for, the rectifier idle. -/
def heldBeforeSuspend : State :=
  let s := atStage .held (.tagged (stepBytes 0x21 1))
  { s with
    lanes := s.lanes.set 0 { s.lane 0 with
      holdPosition := some .tagged, options := { suspendPermit := true, quiet := true, holdPermit := true } }
    slots := List.replicate 3 { Slot.empty with
      state := .ready, record := some ⟨42, .survey, 0, 0, 0, 1, 1, 20, 20, 4096, false, false, false, false⟩ }
    requests := [.survey 0 1], map := exampleMap }

/-- STEP from a tagged hold onto a SUSPEND flag: the request is granted before the lane is held again (R161, R184; log 20). -/
theorem test_step_grants :
    let s := heldBeforeSuspend
    let t := after (.stepOrder 0) s
    let u := after (.renderGrant []) t
    OrdersRun s ∧ nextGrant s = none ∧ (t.lane 0).state = .suspended ∧ (t.lane 0).stage = .leftHold
      ∧ requestEligible t (.survey 0 1) = true ∧ nextGrant t = some (.survey 0 1)
      ∧ (match exec (.holdReached 0) t with
        | .refused .eventNotDue => true
        | _ => false) = true
      ∧ u.rect.render.isSome = true ∧ (u.lane 0).stage = .rest ∧ (u.lane 0).holdPending = true := by decide +kernel

/-- With no request STEP leaves nothing to grant, and the lane is held again at once; GO ends the wait for the grant. -/
theorem test_step_holds :
    let s := { heldBeforeSuspend with requests := [] }
    let t := after (.stepOrder 0) s
    (t.lane 0).state = .suspended ∧ (t.lane 0).stage = .rest ∧ ((after (.holdReached 0) t).lane 0).state = .held
      ∧ ((after (.holdReached 0) t).lane 0).holdPosition = some .suspended
      ∧ ((after (.go 0) (after (.stepOrder 0) heldBeforeSuspend)).lane 0).stage = .rest := by decide +kernel

theorem witness_InspectionOrders :
    PortFree (atStage .held .boundary) ∧ (atStage .held .boundary).port.inspection = none
      ∧ (atStage .held .boundary).port.config = .configured
      ∧ ({ configured.port with inspection := some ⟨.snap, [(0, [1])]⟩ }).inspection ≠ none ∧ State.reset.port.config ≠ .loading := by
  decide

/-- A snapshot of a surveying lane 0, F at 7 and h at 9, one sink of 2 rows with 1 written, two markers, written out from R186's
table: bytes 4 to 23. -/
theorem test_snapshot_map :
    let s : State := { surveying .running .fetch with
      map := { exampleMap with range := some ⟨7, 9⟩, sinks := [⟨0x40, 0x1000, 2, 1, 7, true⟩], markers := [⟨117, some 7⟩, ⟨1, none⟩] }
      trigger := { Trigger.reset with armed := some 0 } }
    (snapshotRecord s 0).drop 4 |>.take 20
      = [2, 0, 0, 1, 7, 0, 0, 0, 9, 0, 0, 0, 0, 0, 2, 3, 1, 0, 0, 0] := by decide +kernel

/-- The first sink entry and the first marker entries of a dump, from R187's tables. -/
theorem test_dump_entries :
    let m : WallMap := { exampleMap with sinks := [⟨0x40, 0x1000, 2, 1, -1, true⟩], markers := [⟨117, some 7⟩, ⟨1, none⟩] }
    dumpSink m 0 = [1, 0x21, 2, 0, 1, 0, 0, 0, 0, 0x10, 0, 0, 0xFF, 0xFF, 0xFF, 0xFF]
      ∧ dumpMarker m 0 = [117, 0, 0, 0, 7, 0, 0, 0] ∧ dumpMarker m 1 = [1, 0, 0, 0, 0, 0, 0, 0] := by decide

/-- A map with no open row meets its laws. -/
theorem empty_map_law (m : WallMap) (h1 : m.sinks = []) (h2 : m.markers = []) (h3 : m.rows = emptyRows) : MapLaw m where
  sinks := by rw [h1]; decide
  markers := by rw [h2]; decide
  slots := by rw [h3]; exact List.length_replicate ..
  place := by
    intro i rr h
    rw [h3, emptyRows, List.getD_eq_getElem?_getD, List.getElem?_replicate] at h
    split at h <;> simp at h

theorem witness_MapLaw : MapLaw exampleMap := empty_map_law _ rfl rfl rfl

theorem witness_InspectionWriteEnds :
    let s := { configured with port := { configured.port with inspection := some ⟨.snap, [(0x160, [1, 2]), (0x15C, [3])]⟩ } }
    s.port.inspection = some ⟨.snap, (0x160, [1, 2]) :: [(0x15C, [3])]⟩ ∧ 0 < ([1, 2] : List Byte).length
      ∧ ([1, 2] : List Byte).length ≤ 2 ∧ [((0x15C : Word), [(3 : Byte)])] ≠ [] ∧ OutsideOf 0x160 1 0x161 ∧ OutsideOf 0x160 0 0x160 := by
  decide

/-- A settings block in range. -/
def goodSettings : Settings :=
  { slotCount := 3, repairLimit := 0, timeoutMs := 1, filterCode := 3, slotArea := 0, ws := 256, hs := 256, mode1 := 1, mode2 := 0
    zeroFlag := 0, derateCode := 7, cutoffCode := 7, ledCap := 1, timeCeiling := 20, scale := 1, slipLimit := 0 }

/-- The same block as it stands in memory at the anchor, byte by byte (R5). -/
def goodBlock : Memory := [(0, 3), (2, 1), (3, 3), (9, 1), (11, 1), (12, 1), (15, 7), (16, 7), (17, 1), (18, 20), (20, 1)]

theorem witness_SettingsLoadEnds :
    let s := { State.reset with port := { Port.reset with config := .loading }, mem := goodBlock }
    s.port.config = .loading ∧ (Settings.ofBytes (s.mem.read s.port.anchor 64)) = goodSettings ∧ goodSettings.error = 0
      ∧ s.trigger.armed = none ∧ (Settings.ofBytes (Memory.read [] 0 64)).error ≠ 0 := by decide

theorem witness_OdometerLoad :
    goodSettings.error = 0 ∧ (Odometer.reset lowPins).filterCode = goodSettings.filterCode ∧ goodSettings.mode2 = 0
      ∧ ({ goodSettings with mode1 := 0, mode2 := 2 }).error = 0
      ∧ ({ goodSettings with mode2 := 2, slipLimit := 65535 }).error = 0 := by decide

/-- A load with another filter code (R38, R51): an edge held for the new filter time of 8 microseconds is accepted and counted, one
held for 7 is not. -/
theorem witness_OdometerLoad_filter :
    let c := { goodSettings with filterCode := 1 }
    let o : Odometer := { Odometer.reset lowPins with mode1 := .quad, pins := ⟨true, false, false, false, false⟩ }
    let due := loadOdometer c [(.single .a1, 8)] o
    let early := loadOdometer c [(.single .a1, 7)] o
    o.filterCode ≠ c.filterCode ∧ (due.w1, due.p, due.accepted.a1) = (1, 1, true)
      ∧ (early.w1, early.p, early.accepted.a1) = (0, 0, false) := by decide

theorem witness_RecordsInRange :
    workedGeometry.checkCode 1280 1024 = none ∧ ({ workedGeometry with rowPitch := 900 }).windowDepth = 556
      ∧ ({ workedGeometry with ws := 1264 }).checkCode 1280 1024 = some .sourceSize := by decide

/-- Error codes of R5's table: the first field out of range gives the code, and a cutoff threshold of 19,500 mV needs a derate
threshold above it. -/
theorem test_settings_errors :
    ({ goodSettings with slotCount := 2, slotArea := 1 }).error = 2 ∧ ({ goodSettings with slotArea := 1, timeoutMs := 0 }).error = 3
      ∧ ({ goodSettings with timeoutMs := 0, mode1 := 3 }).error = 6 ∧ ({ goodSettings with derateCode := 3, cutoffCode := 7 }).error = 15
      ∧ ({ goodSettings with derateCode := 4, cutoffCode := 7 }).error = 0 ∧ ({ goodSettings with timeCeiling := 19 }).error = 17 := by
  decide

/-- Fields at the offsets of R5, R7, R20 and R90, in blocks whose byte at each offset is that offset. -/
theorem test_layouts :
    let bs : List Byte := (List.range 64).map (BitVec.ofNat 8)
    let c := Settings.ofBytes bs
    let b := LaneBlock.ofBytes bs
    let g := Geometry.ofBytes bs
    (c.slotArea, c.hs, c.timeCeiling, c.slipLimit) = (0x07060504, 0x0B0A, 0x1312, 0x1B1A1918)
      ∧ (b.programAddr, b.cls, b.holdRow, b.dumpAddr) = (0x03020100, 0, 0x0B0A0908, 0x0F0E0D00)
      ∧ b.options = { initial := true, suspendPermit := true }
      ∧ (g.ey, g.roll, g.zFar, g.cy, g.gainLimit, g.outCode) = (0x0B0A0908, 0x0D0C, 0x17161514, 0x23222120, 0x2F2E, 0x31)
      ∧ (StepWord.ofBytes bs).patchOps = ⟨0x110, 0, 0x1312, 0x1514, 0x1716, 0x1A1918, 0x1B, 0x1F1E1D1C⟩ := by decide

theorem witness_LaneBlockReadEnds :
    let s := atStage .starting .blockRead
    ((s.lane 0).stage = .blockRead ∧ (s.lane 0).statusPending = false ∧ ∀ c, (0 : LaneId) ∉ s.port.queues.get c)
      ∧ (LaneBlock.ofBytes (Memory.read [] 0x100 16)).programAddr.toNat % 32 = 0
      ∧ (LaneBlock.ofBytes (Memory.read [(0x100, 31)] 0x100 16)).programAddr.toNat % 32 ≠ 0
      ∧ ((laneZero fun x => { x with discarding := some .block }).lane 0).stage ≠ .blockRead
      ∧ ((after (.laneBlockReadEnd 0 .faulted) (laneZero fun x => { x with discarding := some .block })).lane 0).discarding = none := by
  decide

/-- Lane 0 fetching with these options. -/
def fetched (o : Options) : State := laneZero fun x => { x with state := .running, stage := .fetch, options := o }

theorem witness_StepFetched :
    ((fetched {}).lane 0).stage = .fetch ∧ ((fetched {}).lane 0).state = .running
      ∧ (stepBytes 0x21 0).holdFlag = false ∧ (stepBytes 0x21 0).suspendFlag = false ∧ (stepBytes 0x21 0).code ∈ knownCodes
      ∧ ((atStage .starting .fetch).lane 0).options.initial = false ∧ (stepBytes 0x07 0).code ∉ knownCodes
      ∧ (stepBytes 0x20 4).holdFlag = true ∧ (stepBytes 0x06 1).suspendFlag = true
      ∧ ((fetched { holdPermit := true }).lane 0).holdPass = false ∧ surveyRenderOf (fetched { holdPermit := true }) 0 = false
      ∧ ((fetched { suspendPermit := true }).lane 0).resumePending = false := by decide

/-- Lane 0 after a first fetch of a step with this code and these flags. -/
def firstFetch (x : Lane → Lane) (code flags : Byte) : State :=
  after (.stepFetch 0 (.arrived [(0, code), (1, flags)])) (laneZero fun y => x { y with state := .starting, stage := .fetch })

/-- The first fetch of a STARTING lane (R25, R26, R180): INITIAL, then held, suspended or refused as any later fetch is. -/
theorem witness_StepFetched_first :
    let held := firstFetch (fun x => { x with options := { initial := true, holdPermit := true } }) 0x20 4
    let suspended := firstFetch (fun x => { x with options := { suspendPermit := true } }) 0x20 1
    ((held.lane 0).state = .held ∧ (held.lane 0).reasons = { initial := true, held := true } ∧ held.statusWrites.length = 2)
      ∧ ((suspended.lane 0).state = .suspended ∧ (suspended.lane 0).reasons = { suspended := true })
      ∧ ((firstFetch id 0x07 0).lane 0).stage = .doneWrite (.check .stepCode)
      ∧ ((firstFetch id 0x20 4).lane 0).stage = .doneWrite (.check .hold)
      ∧ ((firstFetch (fun x => { x with afterJump := true }) 0x20 4).lane 0).stage = .doneWrite (.check .jumpChain) := by decide

/-- HALT_PENDING at a tagged hold point and at a suspension ends the program HALTED (log 10); a step about to be taken goes on to be
taken (log 41). -/
theorem witness_StepFetched_halt :
    let halting (o : Options) := firstFetch fun x => { x with options := o, haltPending := true }
    ((halting { holdPermit := true } 0x20 4).lane 0).completion = .halted ∧ ((halting { holdPermit := true } 0x20 4).lane 0).state = .idle
      ∧ ((halting { suspendPermit := true } 0x20 1).lane 0).completion = .halted
      ∧ ((halting {} 0x21 0).lane 0).stage = .take (stepBytes 0x21 0) := by decide

/-- A done word in flight for lane 0, alone, with this role and the lane at this stage. -/
def oneDone (role : DoneRole) (sg : Stage) : State :=
  { atStage .running sg with doneWrites := [⟨0, 0x40, .done, zeros 12, true, role⟩] }

theorem witness_DoneWordWritten :
    (oneDone .current (.doneWrite .advance)).doneWrites = ⟨0, 0x40, .done, zeros 12, true, .current⟩ :: []
      ∧ (zeros 12).length = 12 ∧ OutsideOf (0x40 + 2) 14 0x50 ∧ OutsideOf (0x40 + 2) 14 0x41
      ∧ ((oneDone .current (.doneWrite (.jump 0x60))).lane 0).stage = .doneWrite (.jump 0x60)
      ∧ ((oneDone .current (.doneWrite .stop)).lane 0).state = .running
      ∧ ((oneDone .current (.doneWrite (.check .memory))).lane 0).haltPending = false
      ∧ ((oneDone .current (.doneWrite .advanceAlert)).lane 0).holdPending = false
      ∧ ((oneDone .current (.doneWrite .advanceStarved)).lane 0).stage = .doneWrite .advanceStarved
      ∧ (oneDone .sinkFull .fetch).doneWrites = ⟨0, 0x40, .done, zeros 12, true, .sinkFull⟩ :: []
      ∧ (oneDone .detached .fetch).doneWrites = ⟨0, 0x40, .done, zeros 12, true, .detached⟩ :: []
      ∧ (oneDone .clearing .fetch).doneWrites = ⟨0, 0x40, .done, zeros 12, true, .clearing⟩ :: [] := by decide

/-- A survey of lane 0 that closes, ended as `f` has it, its last sink's done word in flight. -/
def closing (st : LaneState) (sg : Stage) (f : WallMap → WallMap) : State :=
  { atStage st sg with
    doneWrites := [⟨0, 0x40, .exception, zeros 12, false, .sinkClose⟩], map := f { exampleMap with phase := .closing } }

/-- The last word of the closing sinks: END goes on DONE, or starved, a drained lane is IDLE, a faulted one winds down. -/
theorem witness_DoneWordWritten_closers :
    let ended := closing .running (.endWait (word 0x0B [])) fun m => { m with ending := .endTaken }
    let starved := closing .running (.endWait (word 0x0B [])) fun m => { m with ending := .endTaken, starvedDrain := true }
    let drained := closing .draining .rest fun m => { m with ending := .programEnded, starvedDrain := true }
    let faulted := closing .draining .rest fun m => { m with faulted := true }
    let next := after (.doneWordWriteEnd 0 0 .landed)
    (ended.map.phase = .closing ∧ (∀ p ∈ ([] : List DoneWrite), p.role ≠ .sinkClose) ∧ ended.map.lane = some 0
        ∧ ended.map.faulted = false)
      ∧ ((next ended).lane 0).stage = .doneWrite .advance ∧ (next ended).map.lane = none
      ∧ ((next starved).lane 0).stage = .doneWrite .advanceStarved
      ∧ ((next drained).lane 0).state = .idle ∧ ((next drained).lane 0).completion = .drainStarved
      ∧ ((next faulted).lane 0).state = .idle ∧ ((next faulted).lane 0).kinds = { secondary := true } := by decide

/-- Three words in flight, of lanes 1, 0 and 0: lane 0's second one ends (log 28), and the others stay. -/
theorem witness_DoneWordWritten_nth :
    let first : DoneWrite := ⟨1, 0x80, .done, zeros 12, false, .detached⟩
    let second : DoneWrite := ⟨0, 0x60, .done, zeros 12, false, .sinkFull⟩
    let third : DoneWrite := ⟨0, 0x40, .done, zeros 12, false, .current⟩
    let s := { oneDone .current (.doneWrite .advance) with doneWrites := [first, second, third] }
    let t := after (.doneWordWriteEnd 0 1 .landed) s
    s.doneWrites = [first, second] ++ third :: [] ∧ [first, second].countP (fun p => decide (p.lane = 0)) = 1
      ∧ t.doneWrites = [first, second] ∧ t.mem = [(0x42, 1)] ∧ (t.lane 0).stage = .fetch := by decide

/-- A step in progress at a map fault has its done word written, before and after the map has unbound (R34). -/
theorem witness_DoneWordWritten_draining :
    let s : State := { oneDone .current (.doneWrite .advance) with lanes := (atStage .draining (.doneWrite .advance)).lanes }
    let t : State := { s with map := exampleMap }
    ((s.lane 0).state = .draining ∧ (s.lane 0).stage = .doneWrite .advance) ∧ s.map.lane ≠ some 0 ∧ t.map.lane = some 0
      ∧ ((after (.doneWordWriteEnd 0 0 .landed) s).lane 0).state = .idle
      ∧ ((after (.doneWordWriteEnd 0 0 .landed) t).lane 0).state = .draining := by decide

theorem witness_JumpStopPoseSteps :
    Taking (taking (word 0x20 [0x40])) 0 (word 0x20 [0x40]) 0x20 ∧ (word 0x20 [0x40]).operand 16 4 % 32 = 0
      ∧ Taking (taking (word 0x20 [0x44])) 0 (word 0x20 [0x44]) 0x20 ∧ (word 0x20 [0x44]).operand 16 4 % 32 ≠ 0
      ∧ Taking (taking (word 0x21 [])) 0 (word 0x21 []) 0x21 ∧ Taking (taking (word 0x06 [])) 0 (word 0x06 []) 0x06 := by decide

theorem witness_HoldReachedAndClearingEnds :
    let s := laneZero fun x => { x with state := .running, stage := .boundary, holdPending := true }
    let u := { s with trigger := { Trigger.reset with armed := some 0, pending := true } }
    ((s.lane 0).stage = .boundary ∧ (s.lane 0).holdPending = true ∧ surveyRenderOf s 0 = false)
      ∧ (u.trigger.armed = some 0 ∧ u.trigger.pending = true ∧ surveyRenderOf u 0 = false)
      ∧ (let t := after (.stepOrder 0) heldBeforeSuspend
        (t.lane 0).state = .suspended ∧ (t.lane 0).stage = .leftHold ∧ (nextGrant t).isSome = true)
      ∧ ((atStage .clearing .rest).lane 0).state = .clearing ∧ clearingLeft (atStage .clearing .rest) 0 = false := by decide

/-- A CLEARING lane with nothing left to end, another lane's done word being in flight. -/
theorem witness_HoldReachedAndClearingEnds_clearing :
    let s : State := { atStage .clearing .rest with doneWrites := [⟨1, 0x80, .abandoned, zeros 12, false, .clearing⟩] }
    (s.lane 0).state = .clearing ∧ (∀ r, s.rect.render = some r → r.lane = 0 → r.stopping = false)
      ∧ (∀ d ∈ s.doneWrites, d.lane = 0 → d.role ≠ .clearing) ∧ (s.lane 0).discarding = none
      ∧ (∀ q ∈ s.lateCommits, q.lane ≠ 0) ∧ ((after (.clearingEnd 0) s).lane 0).state = .idle :=
  have idle : Rectifier.reset.render = none := by decide
  ⟨by decide, fun r h => absurd (idle.symm.trans h) nofun, by decide, by decide, by decide, by decide⟩

theorem witness_TableSteps :
    Taking (taking (word 0x02 [4])) 0 (word 0x02 [4]) 0x02 ∧ (word 0x02 [4]).operand 16 4 % 4 = 0
      ∧ Taking (taking (word 0x05 [2])) 0 (word 0x05 [2]) 0x05 ∧ (word 0x05 [2]).operand 16 4 % 4 ≠ 0
      ∧ Taking (surveying .running (.take (word 0x01 []))) 0 (word 0x01 []) 0x01
      ∧ (surveying .running (.take (word 0x01 []))).map.lane = some 0
      ∧ Taking (taking (word 0x03 [])) 0 (word 0x03 []) 0x03
      ∧ ((taking (word 0x03 [])).lane 0).context.geometryValid = false := by decide

theorem witness_TableReadEnds :
    ((atStage .running (.tableRead (word 0x01 []) 64)).lane 0).stage = .tableRead (word 0x01 []) 64
      ∧ (Geometry.ofBytes (zeros 64)).checkCode 256 256 = some .operand ∧ workedGeometry.checkCode 1280 1024 = none
      ∧ ((laneZero fun x => { x with discarding := some .table }).lane 0).stage = .rest := by decide

/-- BEGIN with pitch 1, time 20, light 1 and staging at 0: the least operands in range (R130). -/
def leastBegin : StepWord := word 0x08 [1, 0, 20, 0, 1]

/-- A context with its five flags set. -/
def fullContext : Context :=
  { workedContext with geometryValid := true, lensValid := true, shadeValid := true, toneValid := true, glareValid := true }

theorem witness_BeginStep :
    let s := laneZero fun x => { x with state := .running, stage := .take leastBegin, context := fullContext }
    (Taking s 0 leastBegin 0x08 ∧ leastBegin.operand 16 2 ≠ 0 ∧ 20 ≤ leastBegin.operand 18 2 ∧ leastBegin.operand 18 2 ≤ 10000
        ∧ leastBegin.operand 20 1 ≠ 0 ∧ leastBegin.operand 24 4 % 4096 = 0)
      ∧ (s.lane 0).context.complete = true ∧ s.map.lane = none ∧ ((taking leastBegin).lane 0).context.complete = false
      ∧ (word 0x08 [1, 0, 19, 0, 1]).operand 18 2 < 20 ∧ ({ s with map := exampleMap }).map.lane = some 0
      ∧ ({ s with map := { exampleMap with lane := some 3 } }).map.lane = some 3 := by decide

/-- SINK of capacity 4,096 at 16: the greatest capacity in range (R144). -/
def greatestSink : StepWord := word 0x09 [16, 0, 0, 0, 0, 16]

theorem witness_SurveyQueueSteps :
    let s := surveying .running (.take greatestSink)
    (Taking s 0 greatestSink 0x09 ∧ greatestSink.operand 16 4 % 16 = 0 ∧ greatestSink.operand 20 2 = 4096 ∧ s.map.lane = some 0
        ∧ s.map.sinks.length < 8)
      ∧ 8 ≤ ({ exampleMap with sinks := List.replicate 8 ⟨0, 0, 1, 0, 0, false⟩ }).sinks.length
      ∧ Taking (taking greatestSink) 0 greatestSink 0x09 ∧ (taking greatestSink).map.lane ≠ some 0
      ∧ Taking (surveying .running (.take (word 0x0A []))) 0 (word 0x0A []) 0x0A
      ∧ 16 ≤ ({ exampleMap with markers := List.replicate 16 ⟨0, none⟩ }).markers.length
      ∧ Taking (surveying .running (.take (word 0x0B []))) 0 (word 0x0B []) 0x0B := by decide

theorem witness_WindowRows :
    0 < exampleMap.rowPitch ∧ workedGeometry.zNear = exampleMap.zNear ∧ workedGeometry.zFar = exampleMap.zFar
      ∧ workedGeometry.rowPitch = exampleMap.rowPitch ∧ exampleMap.zNear < exampleMap.zFar := by decide

/-- A row of index `n` and this score. -/
def rowOf (n score : Int) : RowRecord := ⟨n, score, 0, {}, 0, 0, false, false⟩

/-- No row open, F at 0. -/
def frontMap : WallMap := { exampleMap with range := some ⟨0, -1⟩ }

theorem witness_CandidateTaken : OpenRun frontMap ⟨0, -1⟩ ∧ (0 : Int) ≤ (rowOf 0 5).row ∧ (rowOf 0 5).row = -1 + 1
    ∧ (rowOf 0 5).row < 0 + 512 := by
  refine ⟨⟨rfl, List.length_replicate .., by decide, by decide, ?_⟩, by decide, by decide, by decide⟩
  intro n
  have h : openRow frontMap n = none := by
    have e : frontMap.rows.getD (rowSlot n) none = none := by
      unfold frontMap exampleMap WallMap.reset emptyRows
      rw [List.getD_eq_getElem?_getD, List.getElem?_replicate]
      split <;> rfl
    unfold openRow
    rw [e]
  simp only [h, Option.isSome_none, Bool.false_eq_true, false_iff]
  omega

/-- Row 5 open in its slot. -/
theorem witness_CandidateTaken_open :
    openRow { exampleMap with rows := List.replicate 5 none ++ [some (rowOf 5 9)] ++ List.replicate 506 none } 5
      = some (rowOf 5 9) := by decide

/-- A survey of lane 0 whose row 7 is being committed into a sink of this capacity. -/
def committing (capacity : Nat) (used : Bool) : State :=
  { atStage .running .fetch with map := { exampleMap with
      range := some ⟨7, 9⟩, commit := some ⟨7, 7, true, 0x2000, zeros 4⟩, sinks := [⟨0x40, 0x2000, capacity, 0, 0, false⟩]
      holdRowUsed := used } }

theorem witness_RowCommitEnds :
    (committing 2 true).map.lane = some 0 ∧ (committing 2 true).map.commit = some ⟨7, 7, true, 0x2000, zeros 4⟩
      ∧ (committing 2 true).map.sinks = ⟨0x40, 0x2000, 2, 0, 0, false⟩ :: [] ∧ (∀ q ∈ (committing 2 true).lateCommits, q.lane ≠ 0)
      ∧ (committing 2 true).map.phase ≠ .closing ∧ (committing 2 true).map.holdRowUsed = true
      ∧ (committing 1 true).map.sinks = ⟨0x40, 0x2000, 1, 0, 0, false⟩ :: [] ∧ (∀ w, ((committing 1 true).lane 0).stage ≠ .sinkWait w)
      ∧ OutsideOf 0x2000 4 0x2004 ∧ OutsideOf 0x2000 4 0x1FFF :=
  ⟨by decide, by decide, by decide, by decide, by decide, by decide, by decide, nofun, by decide, by decide⟩

/-- Row 7 of a run up to `last` lands in a drain: the next row follows, or the drain starves, or ends. -/
theorem witness_RowCommitEnds_drain :
    let run (last : Int) (sinks : List Sink) : State := { committing 1 true with map := { (committing 1 true).map with
      phase := .draining, ending := .programEnded, commit := some ⟨7, last, true, 0x2000, zeros 4⟩, sinks := sinks } }
    let one : Sink := ⟨0x40, 0x2000, 1, 0, 0, false⟩
    let next := after (.rowCommitEnd 0 [])
    (next (run 9 [one, ⟨0x60, 0x3000, 4, 0, 0, false⟩])).map.commit.map (fun c => (c.row, c.addr)) = some (8, 0x3000)
      ∧ (next (run 9 [one])).map.starvedDrain = false ∧ ((next (run 9 [one])).lane 0).counters.discarded = 2
      ∧ ((next (run 9 [one])).lane 0).completion = .drainStarved
      ∧ ((next (run 7 [one])).lane 0).counters.discarded = 0 ∧ (next (run 7 [one])).map.lane = none := by decide +kernel

/-- The rows of an admission have been committed: the forced hold is set, a patch render or none leaves it (R137 item 4, R139). -/
theorem witness_RowCommitEnds_hold :
    let job (j : RenderJob) : Rectifier := { Rectifier.reset with render := some {
      job := j, lane := 0, slot := 0, context := Context.reset, pos := 0, e := 4096, seq := 42, derated := false, slip := false
      columns := none, writing := none, stopping := false } }
    let s (row : Int) (j : RenderJob) : State := { committing 2 false with
      lanes := (laneZero fun x => { x with
        state := .running, stage := .fetch, options := { holdPermit := true, holdRowValid := true }, holdRow := row }).lanes
      trigger := { Trigger.reset with armed := some 0 }, rect := job j }
    let next := after (.rowCommitEnd 0 [])
    ((next (s 500 (.survey 500 8))).lane 0).holdPending = true ∧ (next (s 500 (.survey 500 8))).map.holdRowUsed = true
      ∧ ((next (s 501 (.survey 500 8))).lane 0).holdPending = false
      ∧ ((next (s 500 (.patch ⟨0, 3, 1, 1, 100, 1, 1, 0⟩ 0))).lane 0).holdPending = false
      ∧ (next { s 500 (.survey 500 8) with trigger := Trigger.reset }).map.holdRowUsed = true := by decide +kernel

/-- A SINK that waits joins when the full head sink closes; a row that lands after a CLEAR counts in its sink (R147, R157). -/
theorem witness_RowCommitEnds_joins :
    let s : State := { committing 1 true with lanes := (atStage .running (.sinkWait (word 0x09 [0, 0x50, 0, 0, 4]))).lanes }
    let late : State := { configured with lateCommits := [⟨0, ⟨7, 7, false, 0x2000, [9]⟩, [⟨0x40, 0x2000, 4, 0, 0, true⟩]⟩] }
    ((after (.rowCommitEnd 0 []) s).map.sinks = [⟨0, 0x5000, 4, 0, 0, false⟩]
        ∧ ((after (.rowCommitEnd 0 []) s).lane 0).stage = .fetch ∧ ((after (.rowCommitEnd 0 []) s).lane 0).programAddr = 32)
      ∧ (∀ q ∈ (committing 1 true).lateCommits, q.lane ≠ 0)
      ∧ (after (.rowCommitEnd 0 []) late).doneWrites
        = [⟨0, 0x40, .abandoned, [7, 0, 0, 0, 1, 0, 0, 0, 0, 0, 0, 0], true, .clearing⟩] := by decide +kernel

theorem witness_CommitIssued :
    (¬ ∃ l w, (committing 1 true).map.lane = some l ∧ ((committing 1 true).lane l).stage = .markWait w)
      ∧ openRow (committing 1 true).map 7 = none ∧ (committing 1 true).map.markers = [] := by
  refine ⟨?_, by decide, by decide⟩
  rintro ⟨l, w, h1, h2⟩
  have h0 : l = 0 := (Option.some.inj h1).symm
  subst h0
  exact absurd h2 nofun

/-- A MARK that waits for room joins when row 7 takes the oldest marker; a marker of row 8 stays (R149, R150). -/
theorem witness_CommitIssued_joins :
    let s (target : Int) : State := { committing 1 true with
      lanes := (atStage .running (.markWait (word 0x0A [5]))).lanes
      map := { (committing 1 true).map with markers := ⟨117, some target⟩ :: List.replicate 15 ⟨1, none⟩ } }
    let k : Sink := ⟨0x40, 0x2000, 1, 0, 0, false⟩
    (issueCommit k 7 7 (s 7)).map.markers = List.replicate 15 ⟨1, none⟩ ++ [⟨5, some 7⟩]
      ∧ ((issueCommit k 7 7 (s 7)).lane 0).stage = .doneWrite .advance
      ∧ (issueCommit k 7 7 (s 8)).map.markers = (s 8).map.markers := by decide +kernel

/-- A survey whose END has been taken, nothing in hand. -/
def ending (e : Ending) (range : Option RowRange) (st : LaneState) (sg : Stage) : State :=
  { atStage st sg with map := { exampleMap with ending := e, range := range } }

theorem witness_DrainBegins :
    let s := ending .endTaken none .running (.endWait (word 0x0B []))
    (s.map.lane = some 0 ∧ s.map.ending ≠ .none ∧ s.map.phase = .surveying ∧ s.map.commit = none ∧ s.map.faulted = false
        ∧ s.map.starvedDrain = false ∧ (∀ d ∈ s.doneWrites, d.role ≠ .sinkClose) ∧ noFramesInHand s 0 = true)
      ∧ s.map.range = none ∧ s.map.sinks = [] ∧ (s.lane 0).stage = .endWait (word 0x0B [])
      ∧ noFramesInHand (ending .programEnded (some ⟨3, 2⟩) .draining .rest) 0 = true
      ∧ noFramesInHand (ending .endTaken (some ⟨3, 3⟩) .running (.endWait (word 0x0B []))) 0 = true := by decide

/-- Drains at their ends: a starved one of a program that ended, a partial and an unused sink left, an END with markers left. -/
theorem witness_DrainBegins_ends :
    let starved := after (.drainBegin []) (ending .programEnded (some ⟨3, 5⟩) .draining .rest)
    let s := ending .endTaken (some ⟨3, 2⟩) .running (.endWait (word 0x0B []))
    let queued : State := { s with map := { s.map with sinks := [⟨0x40, 0, 4, 1, 2, false⟩, ⟨0x60, 0, 4, 0, 0, false⟩] } }
    let left : State := { s with map := { s.map with markers := [⟨117, none⟩] } }
    ((starved.lane 0).counters.discarded = 3 ∧ (starved.lane 0).completion = .drainStarved ∧ (starved.lane 0).state = .idle
        ∧ (starved.lane 0).kinds = { secondary := true, alert := true })
      ∧ (after (.drainBegin []) queued).doneWrites.map (fun d => (d.code, d.results.getD 8 0))
        = [(.exception, 1), (.exception, 2)]
      ∧ (after (.drainBegin []) queued).map.phase = .closing
      ∧ (after (.drainBegin []) left).doneWrites.map (fun d => d.results) = [[0, 0, 0, 0, 0, 0, 0, 0, 1, 0, 0, 0]] := by
  decide +kernel

theorem witness_MapFaultEndsSurvey :
    (surveying .running .fetch).map.lane = some 0 ∧ (surveying .running .fetch).map.phase ≠ .closing
      ∧ ((surveying .running .fetch).lane 0).state = .running ∧ ((surveying .running .fetch).lane 0).stage = .fetch
      ∧ (surveying .running .fetch).map.sinks = [] ∧ (∀ d ∈ (surveying .running .fetch).doneWrites, d.role ≠ .sinkClose)
      ∧ (committing 1 true).map.commit.isSome = true ∧ configured.map.lane ≠ some 0 := by decide

/-- A map fault on the head sink's write with END waiting, another sink queued, a READY and a FILLING frame of the survey. -/
theorem witness_MapFaultEndsSurvey_sinks :
    let frame : ExposureRecord := ⟨41, .survey, 0, 0, 0, 1, 1, 20, 20, 4096, false, false, false, false⟩
    let s : State := { committing 1 true with
      lanes := (atStage .running (.endWait (word 0x0B []))).lanes
      slots := [{ Slot.empty with state := .ready, record := some frame }, { Slot.empty with state := .filling, record := some frame }]
      map := { (committing 1 true).map with
        ending := .endTaken, sinks := [⟨0x40, 0x2000, 4, 1, 6, false⟩, ⟨0x60, 0x3000, 4, 0, 0, false⟩] } }
    let t := after (.mapFault 0 .sinkWrite []) s
    t.doneWrites.map (fun d => (d.code, d.results.getD 8 0)) = [(.exception, 3), (.abandoned, 0), (.exception, 0)]
      ∧ t.doneWrites.map (fun d => d.results.getD 9 0) = [0, 0, 2]
      ∧ t.slots.map (fun x => x.state) = [.done, .filling] ∧ t.slots.map (fun x => x.orphan) = [false, true]
      ∧ (t.lane 0).state = .draining ∧ (t.lane 0).completion = .fault ∧ t.map.phase = .closing := by decide +kernel

/-- A staging write faults while the sinks of a finished drain close: a map fault, and a second one has no effect (R155; log 23). -/
theorem witness_MapFaultEndsSurvey_closing :
    let s := closing .running (.endWait (word 0x0B [])) fun m => { m with ending := .endTaken, committedInDrain := 7 }
    let t := after (.mapFault 0 .stagingWrite []) s
    let again := after (.mapFault 0 .stagingWrite []) t
    let done := after (.doneWordWriteEnd 0 0 .landed) t
    (s.map.lane = some 0 ∧ ¬ (s.map.phase = .closing ∧ s.map.faulted = true))
      ∧ (t.lane 0).state = .draining ∧ (t.lane 0).completion = .fault ∧ (t.lane 0).kinds = { alert := true, primary := true }
      ∧ t.doneWrites.map (fun d => (d.code, d.results.getD 0 0, d.results.getD 9 0)) = [(.exception, 0, 0), (.exception, 7, 2)]
      ∧ (t.map.phase = .closing ∧ t.map.faulted = true) ∧ again = t
      ∧ done.map.lane = none ∧ (done.lane 0).state = .draining := by decide +kernel

/-- With a SINK waiting, in a DRAINING lane, during a survey render, and on a commit that outlived a CLEAR. -/
theorem witness_MapFaultEndsSurvey_stages :
    let waiting := surveying .running (.sinkWait (word 0x09 []))
    let draining := surveying .draining .rest
    let late : State := { configured with lateCommits := [⟨0, ⟨7, 7, false, 0x2000, [9]⟩, [⟨0x40, 0x2000, 4, 0, 0, true⟩]⟩] }
    let next := after (.mapFault 0 .stagingWrite [])
    ((next waiting).doneWrites = [⟨0, 0, .abandoned, zeros 12, false, .current⟩] ∧ (next waiting).map.lane = none)
      ∧ ((next draining).lane 0).kinds = { alert := true, secondary := true }
      ∧ late.map.lane ≠ some 0 ∧ (after (.mapFault 0 .sinkWrite []) late).doneWrites
        = [⟨0, 0x40, .abandoned, zeros 12, true, .clearing⟩] := by decide +kernel

theorem witness_ExposureLight :
    (1 ≤ 1 ∧ 20 ≤ 20 ∧ 1 ≤ 255) ∧ (255 ≤ 255 ∧ 10000 ≤ 10000)
      ∧ 600 < stretchedTime 200 400 (usedLevels true 120 600 200 400).lUsed
      ∧ (usedLevels true 120 600 200 300).lUsed * (usedLevels true 120 600 200 300).tUsed = 200 * 300 := by decide

theorem witness_StrobeStarts :
    allocate configured = some 0 ∧ OutsideOf 0 64 64 ∧ allocate { configured with slots := [] } = none
      ∧ allocate { configured with slots := [{ Slot.empty with state := .ready }, { Slot.empty with state := .done }] } = some 1 := by
  decide

/-- The header of a patch exposure of lane 2 in DERATE, DERATED and with slip, at p = -2, in R76's layout. -/
theorem test_header :
    headerBytes ⟨0x01020304, .patch, 2, -2, -49, 200, 120, 400, 600, 4551, true, true, false, true⟩
      = [4, 3, 2, 1, 2, 2, 1, 5, 0xFE, 0xFF, 0xFF, 0xFF, 0x90, 1, 0x58, 2, 0xCF, 0xFF, 0xFF, 0xFF, 0xFF, 0xFF, 0xFF, 0xFF, 200, 120,
        0xC7, 0x11] ++ List.replicate 36 0 := by decide

/-- A trigger armed for lane 0 with this high-water mark, and p as given. -/
def armedAt (hw : Option Int) (p : Int) (st : LaneState) : State :=
  { surveying st .fetch with
    trigger := { armed := some 0, pitch := 1024, lReq := 200, tReq := 400, hw := hw, pending := false }
    odo := { configured.odo with p := p } }

theorem witness_TriggerEvaluated :
    configured.trigger.armed = none ∧ (armedAt (some 25284) 26308 .running).trigger.armed = some 0
      ∧ triggerDue (armedAt (some 25284) 26308 .running) = true ∧ triggerDue (armedAt (some 25284) 26307 .running) = false
      ∧ triggerDue (armedAt none (-5) .held) = true ∧ canAllocate (armedAt none 0 .running) = true
      ∧ ((armedAt none 0 .running).lane 0).state ≠ .held
      ∧ (∀ m w, ((armedAt none 0 .running).lane m).stage ≠ .exposeWait w) := by
  refine ⟨by decide, by decide, by decide, by decide, by decide, by decide, by decide, ?_⟩
  intro m
  match m with
  | 0 => exact nofun
  | 1 => exact nofun
  | 2 => exact nofun
  | 3 => exact nofun

/-- Waiters for the head: lane 0's trigger and EXPOSEs of lanes 0 and 3, lane 0 in class 2, lane 3 in class `c`. -/
def waiting (st : LaneState) (hw : Option Int) (c : LaneId) : State :=
  let s := armedAt hw 26308 st
  { s with
    trigger := { s.trigger with pending := true }
    lanes := (s.lanes.set 0 { s.lane 0 with cls := 2, stage := .exposeWait (word 0x10 [3, 1, 20, 0]) }).set 3 { Lane.reset with
      cls := c, state := .running, stage := .exposeWait (word 0x10 [4, 1, 20, 0]) }
    slots := [Slot.empty, Slot.empty, Slot.empty] }

/-- The head serves by class, then lane, the trigger first; a trigger not due or HELD makes way, and counts when HELD (R60, R62). -/
theorem witness_TriggerEvaluated_head :
    headWaiters (waiting .running none 2) = [.survey 0, .expose 0, .expose 3]
      ∧ headWaiters (waiting .running none 1) = [.expose 3, .survey 0, .expose 0]
      ∧ (headArbitrate (waiting .running none 2)).trigger.hw = some 26308
      ∧ ((headArbitrate (waiting .running none 1)).lane 3).stage = .exposeFlight (word 0x10 [4, 1, 20, 0])
      ∧ (headArbitrate (waiting .running (some 26308) 2)).trigger.pending = false
      ∧ ((headArbitrate (waiting .running (some 26308) 2)).lane 0).stage = .exposeFlight (word 0x10 [3, 1, 20, 0])
      ∧ ((headArbitrate (waiting .held none 2)).lane 0).counters.withheldHeld = 1
      ∧ ((headArbitrate (waiting .held none 2)).lane 0).stage = .exposeFlight (word 0x10 [3, 1, 20, 0])
      ∧ headArbitrate { waiting .running none 2 with supply := ⟨.cutoff, 0, 0, 0⟩ }
        = { waiting .running none 2 with supply := ⟨.cutoff, 0, 0, 0⟩ } := by decide +kernel

theorem witness_SupplyTable :
    let m : Supply := { state := .derate, good := 3, derateCode := 4, cutoffCode := 7 }
    16000 + 500 * m.cutoffCode + 500 ≤ 18000 + 500 * m.derateCode ∧ m.state = .derate ∧ m.good = 3
      ∧ ({ m with state := .cutoff, good := 2 }).good < 3 := by decide

/-- An exposure in flight in slot 1 for lane 0, of this kind, in this receiver phase. -/
def exposing (kind : FrameKind) (ph : Phase) (sg : Stage) : State :=
  { atStage .running sg with
    slots := [Slot.empty, { Slot.empty with
      state := .filling
      record := some ⟨41, kind, 0, 0, 0, 1, 1, 20, 20, 4096, false, false, false, false⟩ }, Slot.empty]
    exposure := { Exposure.reset with seq := 41, inFlight := some 1, strobe := true, led := 1 }
    intake := { Intake.reset with phase := ph, timeoutRunning := true } }

theorem witness_SupplySamples :
    (configured.supply.sample (bandOf configured.supply 24000)).state ≠ .cutoff ∧ configured.supply.state = .normal
      ∧ (exposing .survey .integrating .fetch).exposure.strobe = true ∧ (exposing .survey .integrating .fetch).intake.damaged = false
      ∧ (configured.supply.sample (bandOf configured.supply 15999)).state = .cutoff
      ∧ (Supply.sample { state := .cutoff, good := 3, derateCode := 0, cutoffCode := 0 } .b4).state = .derate
      ∧ ((atStage .running (.exposeWait (word 0x10 []))).lane 0).stage = .exposeWait (word 0x10 [])
      ∧ (surveying .running .fetch).map.lane = some 0 := by decide

/-- A strobe end whose sample leaves CUTOFF: the head is still busy, and nobody is granted. -/
theorem witness_SupplySamples_leaves :
    let s := { exposing .survey .integrating (.exposeWait (word 0x10 [3, 1, 20, 0])) with supply := ⟨.cutoff, 3, 0, 0⟩ }
    let t := after (.strobeEnd 24000) s
    s.exposure.strobe = true ∧ s.supply.state = .cutoff ∧ s.exposure.inFlight.isSome = true
      ∧ t.supply.state = .derate ∧ t.intake.phase = .awaitingStart ∧ t.exposure.inFlight = some 1 := by decide

/-- A line token that passes, and one whose CRC is one off, at source width 256. -/
def blackLine (n : Nat) : List Byte := goodLine n (List.replicate 256 0)
def badLine (n : Nat) : List Byte := (blackLine n).take 387 ++ ((blackLine n).drop 387).map (· + 1)

theorem witness_HeadTokensTaken :
    (exposing .survey .receiving .fetch).exposure.inFlight = some 1
      ∧ (exposing .survey .receiving .fetch).intake.phase = .receiving ∧ ¬ typeByte 0xF3 ∧ ¬ typeByte 0xEF
      ∧ (exposing .survey .awaitingStart .fetch).intake.phase = .awaitingStart ∧ configured.intake.ws = 256
      ∧ (exposing .survey .receiving .fetch).intake.framing = ⟨0, []⟩ := by decide

/-- The receiver inside a line token, `n` bytes of it to come. -/
def midToken (n : Nat) (taken : List Byte) : State :=
  { exposing .survey .receiving .fetch with
    intake := { (exposing .survey .receiving .fetch).intake with framing := ⟨n, taken⟩ } }

/-- A type byte inside a line token belongs to it, and so does its last byte (R68): here of 388 bytes. -/
theorem witness_HeadTokensTaken_framing :
    (after (.unknownByte 0xF1) configured).intake.framing = ⟨388, []⟩
      ∧ (after (.headLine [0, 0, 1]) configured).intake.framing = ⟨385, [1, 0, 0]⟩
      ∧ (after .headFrameStart (midToken 2 [7])).intake.framing = ⟨1, [0xF0, 7]⟩
      ∧ (after (.headFrameEnd false) (midToken 2 [7])).intake.framing = ⟨1, [0xF2, 7]⟩
      ∧ (after (.unknownByte 9) (midToken 2 [7])).intake.framing = ⟨1, [9, 7]⟩
      ∧ (List.replicate 387 (0 : Byte)).length + 1 = 3 * (midToken 1 []).intake.ws / 2 + 4 := by decide +kernel

theorem witness_HeadTokensTaken_lines :
    (blackLine 255).length = lineTokenLength 256 ∧ (badLine 255).length = lineTokenLength 256
      ∧ (LineToken.ofBytes (blackLine 255)).number = 255
      ∧ (LineToken.ofBytes (blackLine 255)).passes = true ∧ (LineToken.ofBytes (badLine 255)).passes = false := by
  have len : (packPixels (List.replicate 256 0)).length = 384 := by decide +kernel
  have black (b : List Byte) (h : b.length = 384) :
      (LineToken.ofBytes (0#8 :: 255#8 :: b ++ [BitVec.ofNat 8 ((crc16 (0#8 :: 255#8 :: b)).toNat / 256),
        BitVec.ofNat 8 (crc16 (0#8 :: 255#8 :: b)).toNat])).passes = true := by
    have := (crc16 (0#8 :: 255#8 :: b)).isLt
    simp [LineToken.ofBytes, h]
    omega
  have bad (b : List Byte) (h : b.length = 384) :
      (LineToken.ofBytes (0#8 :: 255#8 :: b ++ [BitVec.ofNat 8 ((crc16 (0#8 :: 255#8 :: b)).toNat / 256),
        BitVec.ofNat 8 (crc16 (0#8 :: 255#8 :: b)).toNat + 1])).passes = false := by
    have := (crc16 (0#8 :: 255#8 :: b)).isLt
    simp [LineToken.ofBytes, h]
    omega
  unfold badLine blackLine goodLine
  revert len
  generalize packPixels (List.replicate 256 0) = b
  intro len
  have e : ((0#8 :: 255#8 :: b) ++ [BitVec.ofNat 8 ((crc16 (0#8 :: 255#8 :: b)).toNat / 256),
        BitVec.ofNat 8 (crc16 (0#8 :: 255#8 :: b)).toNat]).take 387
      ++ (((0#8 :: 255#8 :: b) ++ [BitVec.ofNat 8 ((crc16 (0#8 :: 255#8 :: b)).toNat / 256),
        BitVec.ofNat 8 (crc16 (0#8 :: 255#8 :: b)).toNat]).drop 387).map (· + 1)
      = 0#8 :: 255#8 :: b ++ [BitVec.ofNat 8 ((crc16 (0#8 :: 255#8 :: b)).toNat / 256),
        BitVec.ofNat 8 (crc16 (0#8 :: 255#8 :: b)).toNat + 1] := by
    simp [List.take_append, List.drop_append, len, List.take_of_length_le, List.drop_eq_nil_of_le]
  refine ⟨?_, ?_, rfl, black _ len, ?_⟩
  · simp [len, lineTokenLength]
  · exact (congrArg List.length e).trans (by simp [len, lineTokenLength])
  · exact (congrArg (fun z => (LineToken.ofBytes z).passes) e).trans (bad _ len)

theorem witness_LineTokenRead : 65535 < 65536 ∧ ([4095, 0] : List Nat).length % 2 = 0 ∧ ∀ p ∈ ([4095, 0] : List Nat), p < 4096 := by
  decide

/-- The same exposure, its header write ending. -/
def ended (kind : FrameKind) (orphan : Bool) (sg : Stage) : State :=
  let s := exposing kind .receiving sg
  { s with
    intake := { s.intake with completion := .headerWrite }
    slots := s.slots.map fun x => if x.state = .filling then { x with orphan := orphan } else x }

/-- The same state with an EXPOSE of lane 3 waiting for the head. -/
def awaited (s : State) : State :=
  { s with lanes := s.lanes.set 3 { Lane.reset with state := .running, stage := .exposeWait (word 0x10 [4, 1, 20, 0]) } }

/-- Lane 3's EXPOSE has been served. -/
abbrev Served (s : State) : Prop := (s.lane 3).stage = .exposeFlight (word 0x10 [4, 1, 20, 0])

/-- The same state with every FREE slot but slot 1 KEPT. -/
def othersKept (s : State) : State :=
  { s with slots := s.slots.map fun x => if x.state = .free then { x with state := .kept } else x }

theorem witness_FrameEnds :
    ((exposing .survey .receiving .fetch).intake.completion = .none ∧ (exposing .survey .receiving .fetch).exposure.inFlight = some 1)
      ∧ (ended .survey false .fetch).intake.completion = .headerWrite ∧ 1 < (ended .survey false .fetch).slots.length
      ∧ ((ended .survey true .fetch).slot 1).orphan = true ∧ ((ended .patch true .fetch).slot 1).record.isSome = true
      ∧ ((ended .patch false (.exposeFlight (word 0x10 [3]))).lane 0).stage = .exposeFlight (word 0x10 [3])
      ∧ ({ (Intake.reset) with completion := .lineWrites }).completion = .lineWrites
      ∧ (exposing .survey .receiving .fetch).intake.framing = ⟨0, []⟩ := by decide

theorem witness_DamageReported :
    (exposing .survey .receiving .fetch).exposure.inFlight = some 1
      ∧ ((exposing .survey .receiving .fetch).slot 1).orphan = false ∧ 1 < (exposing .survey .receiving .fetch).slots.length
      ∧ (exposing .survey .receiving .fetch).intake.timeoutRunning = true ∧ configured.intake.phase = .idle
      ∧ (after .readoutTimeout (midToken 2 [7])).intake.framing = ⟨0, []⟩
      ∧ (after (.slotWriteFault []) (midToken 2 [7])).intake.framing = ⟨2, [7]⟩
      ∧ (exposing .survey .integrating .fetch).intake.phase = .integrating
      ∧ ((ended .patch false (.exposeFlight (word 0x10 [3]))).lane 0).stage = .exposeFlight (word 0x10 [3]) := by decide

/-- A frame end and damage serve a waiter, once the slot has left FILLING (R62, R74, R75): a slot freed there is the next one used. -/
theorem witness_FrameEnds_grant :
    headWaiters (awaited (ended .survey false .fetch)) = [.expose 3]
      ∧ Served (after .frameComplete (awaited (ended .survey false .fetch)))
      ∧ (after .frameComplete (othersKept (awaited (ended .patch true .fetch)))).exposure.inFlight = some 1
      ∧ (after .frameComplete (othersKept (awaited (ended .survey false .fetch)))).exposure.inFlight = none
      ∧ Served (reportDamage (othersKept (awaited (exposing .survey .receiving .fetch))))
      ∧ (reportDamage (othersKept (awaited (exposing .survey .receiving .fetch)))).exposure.inFlight = some 1 := by decide +kernel

/-- Wheel 1 in QUAD with both its pins changed, and its count at the limit. -/
def bothChanged : Odometer :=
  { Odometer.reset lowPins with pins := ⟨true, true, false, false, false⟩, mode1 := .quad, w1 := 2147483647, p := 2147483647 }

theorem witness_OdometerInputs :
    (∀ i, Edge.both .one = .single i ∨ (∃ w, Edge.both .one = .both w ∧ i.wheel = some w) →
        bothChanged.pins.level i ≠ bothChanged.accepted.level i)
      ∧ 2147483647 < bothChanged.count .one + 1 ∧ ¬ 2147483647 < bothChanged.count .one + (-1)
      ∧ OdometerLaw bothChanged ∧ bothChanged.mode1 ≠ .off ∧ bothChanged.mode2 = .off
      ∧ ({ bothChanged with mode1 := .pulse }).mode .one = .pulse ∧ 0 < twoWheels.slipLimit := by
  refine ⟨?_, by decide, by decide, ⟨by decide, by decide, by decide, by decide, by decide⟩, by decide, by decide, by decide,
    by decide⟩
  rintro i (h | ⟨w, h, hw⟩)
  · exact absurd h nofun
  · cases h
    cases i <;> first | decide | exact absurd hw nofun

/-- A wheel that is OFF takes a new pair without a count. -/
theorem test_wheel_off :
    let o := takePair .one { bothChanged with mode1 := .off, accepted := ⟨true, false, false, false, false⟩ }
    o.pair1 = (true, false) ∧ o.w1 = 2147483647 ∧ o.phase1 = 0 ∧ o.saturated = false := by decide

/-- A wheel in PULSE (R41): the rising edge of A counts down while DIR is low; a change of B alone counts nothing. -/
theorem witness_OdometerInputs_pulse :
    let o : Odometer := { Odometer.reset lowPins with mode1 := .pulse, accepted := ⟨true, true, false, false, false⟩ }
    let b : Odometer := { o with accepted := ⟨false, true, false, false, false⟩ }
    (o.mode .one = .pulse ∧ (o.decoderPair .one).1 = false ∧ (o.accepted.pair .one).1 = true ∧ (b.accepted.pair .one).1 = false)
      ∧ (takePair .one o).w1 = -1 ∧ (takePair .one { o with accepted := { o.accepted with dir := true } }).w1 = 1
      ∧ (takePair .one b).w1 = 0 ∧ (takePair .one b).pair1 = (false, true) := by decide

theorem witness_QuadDecoder :
    bothChanged.mode .one = .quad ∧ bothChanged.decoderPair .one = (false, false) ∧ bothChanged.accepted.pair .one = (false, false)
      ∧ ({ bothChanged with accepted := bothChanged.pins }).accepted.pair .one = (true, true) := by decide

/-- EXPOSE with tag 3, light 1 and time 20: the least in range (R164). -/
def leastExpose : StepWord := word 0x10 [3, 1, 20, 0]

theorem witness_ExposeStep :
    let s := { taking leastExpose with intake := { Intake.reset with slotCount := 3 } }
    (Taking s 0 leastExpose 0x10 ∧ leastExpose.operand 17 1 ≠ 0 ∧ leastExpose.operand 18 2 = 20
        ∧ (¬ ∃ y ∈ s.slots, y.binding = some (0, leastExpose.tag)) ∧ ¬ s.intake.slotCount < keptClaims s + 3)
      ∧ s.exposure.inFlight = none ∧ canAllocate s = true ∧ headWaiters s = [] ∧ s.supply.state ≠ .cutoff
      ∧ (word 0x10 [3, 0, 20, 0]).operand 17 1 = 0
      ∧ (∃ y ∈ [{ Slot.empty with state := .kept, binding := some (0, 3) }], y.binding = some (0, leastExpose.tag))
      ∧ 3 < keptClaims { s with slots := [{ Slot.empty with state := .kept }] } + 3 := by decide

/-- Slot 1 holds a rendered survey frame; slot 2 is kept by lane 0 under tag 3. -/
def keptSlots (sg : Stage) : State :=
  { laneZero (fun x => { x with state := .running, stage := sg, context := fullContext }) with
    slots := [Slot.empty,
      { Slot.empty with state := .done, record := some ⟨41, .survey, 1, 0, 0, 1, 1, 20, 20, 4096, false, false, false, false⟩ },
      { Slot.empty with state := .kept, binding := some (0, 3)
                        record := some ⟨40, .patch, 0, 0, 0, 1, 1, 20, 20, 4096, false, false, false, false⟩ }, Slot.empty]
    intake := { Intake.reset with slotCount := 4 } }

/-- RENDER of tag 3, one column and one row at depth 1, pitch 100, stride 16: the least in range (R169). -/
def leastRender : StepWord := word 0x12 [0, 0x60, 1, 0, 1, 0, 100, 0, 1, 0, 0, 1, 0, 0, 0, 0]

theorem witness_KeepReleaseRenderSteps :
    Taking (keptSlots (.take (word 0x11 [2]))) 0 (word 0x11 [2]) 0x11
      ∧ ((keptSlots .rest).slot 1).state = .done ∧ (word 0x11 [2]).tag = 2
      ∧ (¬ ∃ y ∈ (keptSlots .rest).slots, y.binding = some (0, 2)) ∧ ¬ 4 < keptClaims (keptSlots .rest) + 3
      ∧ Taking (keptSlots (.take (word 0x13 [3]))) 0 (word 0x13 [3]) 0x13 ∧ ((keptSlots .rest).slot 2).binding = some (0, 3)
      ∧ ((keptSlots .rest).slot 2).inUse = false ∧ 2 < (keptSlots .rest).slots.length
      ∧ Taking (keptSlots (.take leastRender)) 0 leastRender 0x12
      ∧ leastRender.patchOps = ⟨0, 3, 1, 1, 100, 1, 1, 0⟩ ∧ ((keptSlots .rest).lane 0).context.complete = true := by decide

/-- A slot that RELEASE frees serves a waiter (R62), and an EXPOSE that joins the waiters is such a point too. -/
theorem witness_KeepReleaseRenderSteps_grant :
    Served (after (.release 0) (awaited (keptSlots (.take (word 0x13 [3])))))
      ∧ ((after (.expose 0) { awaited (taking leastExpose) with intake := { Intake.reset with slotCount := 8 } }).lane 0).stage
        = .exposeFlight leastExpose := by decide +kernel

/-- A survey render of slot 0 and a patch render of slot 2 are asked for. -/
def requested : State :=
  { keptSlots (.renderWait leastRender) with
    requests := [.patch 0 leastRender.patchOps, .survey 1 0]
    slots := [{ Slot.empty with state := .ready, record := some ⟨42, .survey, 1, 0, 0, 1, 1, 20, 20, 4096, false, false, false, false⟩ }]
      ++ (keptSlots .rest).slots.drop 1
    map := { exampleMap with lane := some 1 } }

theorem witness_RendersStart :
    nextGrant requested = some (.patch 0 leastRender.patchOps) ∧ boundSlot requested 0 leastRender.patchOps.tag = some 2
      ∧ (requested.slot 2).record.isSome = true
      ∧ nextGrant { requested with requests := [.survey 1 0] } = some (.survey 1 0) ∧ (requested.slot 0).record.isSome = true
      ∧ 0 < requested.slots.length ∧ requested.map.range = none ∧ (requested.lane 1).options.holdRowValid = false
      ∧ (0 : Nat) < (windowFirst requested.map 0 - 199).toNat := by decide

/-- An idle rectifier, with a request eligible behind one that waits for its HELD lane (R161). -/
theorem witness_RendersStart_eligible :
    let s := { requested with
      requests := [.survey 1 0, .patch 0 leastRender.patchOps], lanes := requested.lanes.set 1 { Lane.reset with state := .held } }
    s.rect.render = none ∧ requestEligible s (.survey 1 0) = false ∧ (∃ q ∈ s.requests, requestEligible s q = true)
      ∧ nextGrant s = some (.patch 0 leastRender.patchOps) := by decide

/-- A survey render in progress of slot 0 for lane 1, at row `n` of rows up to `last`. -/
def rendering (job : RenderJob) (l : LaneId) (writing : Option (Word × List Byte)) : State :=
  { requested with
    slots := requested.slots.map fun x => if x.state = .ready then { x with state := .rendering, inUse := true } else x
    rect := { Rectifier.reset with render := some {
      job := job, lane := l, slot := if l = 0 then 2 else 0, context := fullContext, pos := 0, e := 4096, seq := 42, derated := false
      slip := false, columns := some [⟨0, 0, 599985, 599985⟩], writing := writing, stopping := false } } }

theorem witness_RowsFinished :
    (rendering (.survey 201 200) 1 none).rect.render.isSome = true ∧ (rendering (.survey 201 200) 1 none).map.commit = none
      ∧ (rendering (.survey 201 200) 1 none).map.lane = some 1 ∧ 0 < (rendering (.survey 201 201) 1 none).slots.length
      ∧ ((rendering (.patch leastRender.patchOps 0) 0 none).lane 0).stage = .renderWait leastRender
      ∧ leastRender.patchOps.rows ≤ 0 + 1 := by decide

/-- That render with its column table still to build, stopped by CLEAR or not. -/
def tabling (job : RenderJob) (l : LaneId) (stopping : Bool) : State :=
  let s := rendering job l none
  { s with rect := { s.rect with render := s.rect.render.map fun r => { r with columns := none, stopping := stopping } } }

/-- At the column table's end a stopped render ends, a patch render's step ABANDONED, and one with no row counts as rendered. -/
theorem witness_RendersStart_table :
    (tabling (.survey 201 200) 1 false).rect.render.isSome = true ∧ (tabling (.survey 201 200) 1 false).map.commit = none
      ∧ 0 < (tabling (.survey 201 200) 1 true).slots.length
      ∧ (after .columnTableEnd (tabling (.survey 201 200) 1 true)).rect.render = none
      ∧ ((after .columnTableEnd (tabling (.survey 201 200) 1 true)).lane 1).counters.rendered = 0
      ∧ ((after .columnTableEnd (tabling (.survey 199 200) 1 false)).lane 1).counters.rendered = 1
      ∧ (after .columnTableEnd (tabling (.patch leastRender.patchOps 0) 0 true)).doneWrites
        = [⟨0, 0, .abandoned, zeros 12, false, .clearing⟩] := by decide +kernel

/-- A request of a HELD lane, or of one whose hold is due, waits; a later frame with too little sink room is skipped. -/
theorem witness_RendersStart_waits :
    let held (f : Lane → Lane) : State := { requested with lanes := requested.lanes.set 1 (f (requested.lane 1)) }
    requestEligible (held fun x => { x with state := .held }) (.survey 1 0) = false
      ∧ requestEligible (held fun x => { x with state := .running, stage := .boundary, holdPending := true }) (.survey 1 0) = false
      ∧ ((after (.renderGrant []) { requested with
          requests := [.survey 1 0], map := { exampleMap with lane := some 1, range := some ⟨199, 198⟩ } }).lane 1).counters.starved
        = 1 := by decide +kernel

/-- A later frame that commits no row sets the forced hold: row 600 of a window from 200 to 699, F at 200. -/
theorem witness_RendersStart_hold :
    let s : State := { requested with
      requests := [.survey 1 0], map := { exampleMap with lane := some 1, range := some ⟨200, 199⟩, starving := true }
      lanes := requested.lanes.set 1 { Lane.reset with
        state := .running, holdRow := 600, options := { holdRowValid := true, holdPermit := true } }
      trigger := { Trigger.reset with armed := some 1 } }
    let t := after (.renderGrant []) s
    let ended := after (.renderGrant []) { s with trigger := Trigger.reset }
    windowFirst s.map 0 ≤ 200 ∧ (600 : Int) ≤ windowLast s.map 0 ∧ nextGrant s = some (.survey 1 0)
      ∧ (t.lane 1).holdPending = true ∧ t.map.holdRowUsed = true ∧ t.map.starving = false
      ∧ (ended.lane 1).holdPending = false ∧ ended.map.holdRowUsed = true := by decide +kernel

/-- In that render's row at depth 600,000 column 0 is in field, so that the row reads the frame. -/
theorem witness_RowsFinished_reads :
    (rendering (.survey 600 600) 1 none).rect.render.any (fun r => rowReadsFrame r [⟨0, 0, 599985, 599985⟩]) = true := by
  decide +kernel

/-- Renders that CLEAR has stopped, at the end of a patch row, of its write, and at a fault there (R127, R175). -/
theorem witness_RowsFinished_stopping :
    let stopped (writing : Option (Word × List Byte)) : State :=
      let s := rendering (.patch leastRender.patchOps 0) 0 writing
      { s with rect := { s.rect with render := s.rect.render.map fun r => { r with stopping := true } } }
    (stopped none).rect.render.isSome = true
      ∧ 2 < (stopped (some (0x6000, [1]))).slots.length
      ∧ (after (.patchRowWriteEnd .landed) (stopped (some (0x6000, [1])))).mem = [(0x6000, 1)]
      ∧ (after (.patchRowWriteEnd .landed) (stopped (some (0x6000, [1])))).doneWrites
        = [⟨0, 0, .abandoned, zeros 12, false, .clearing⟩]
      ∧ (after (.patchRowWriteEnd (.faulted [])) (stopped (some (0x6000, [1])))).port.recordFault = false := by decide +kernel

/-- A skipped frame, and a render that ends, serve a waiter where their slot becomes DONE or FREE, and only there (R62, R80). -/
theorem witness_RowsFinished_grant :
    let skipped : State := { requested with
      requests := [.survey 1 0], map := { exampleMap with lane := some 1, range := some ⟨199, 198⟩ } }
    let released (pending : Bool) : State :=
      let s := awaited (rendering (.patch leastRender.patchOps 0) 0 (some (0x6000, [1])))
      { s with slots := s.slots.map fun x => if x.state = .kept then { x with releasePending := pending } else x }
    Served (after (.renderGrant []) (awaited skipped))
      ∧ Served (after .columnTableEnd (awaited (tabling (.survey 201 200) 1 true)))
      ∧ Served (after .columnTableEnd (awaited (tabling (.survey 199 200) 1 false)))
      ∧ ((after .columnTableEnd (awaited (tabling (.survey 199 200) 1 false))).lane 1).counters.rendered = 1
      ∧ Served (after (.rowFinished ⟨[], [], []⟩) (awaited (rendering (.survey 200 200) 1 none)))
      ∧ Served (after (.patchRowWriteEnd .landed) (released true)) ∧ ¬ Served (after (.patchRowWriteEnd .landed) (released false)) := by
  decide +kernel

/-- A raw value is that of its own read (R115): the second read of a row sees a store that the first does not. -/
theorem test_raw_reads :
    let n : Intake := { Intake.reset with ws := 256 }
    let a := (lineAddr n 0 0).toNat
    (rawRead [] [(a, 5)] [0, 1] n 0 0 0 0, rawRead [] [(a, 5)] [0, 1] n 0 1 0 0) = (0, 5) := by decide +kernel

/-- The table of R125: which counts a pixel adds to. -/
theorem test_row_counts :
    countPixels [.outOfField, .glare, .toned 0 true true, .toned 0 true false, .toned 0 false true, .toned 0 false false]
      = { glare := 1, clip := 2, out := 1, limited := 2 } := by decide

theorem witness_PixelArithmetic :
    (1 : Nat) < 2 ^ 64 ∧ (1199970 * 1199970 + 1199970 * 1199970 : Int) < 2 ^ 64 ∧ (0 : Int) ≤ 29001 ∧ (1 : Int) ≤ 24470000 ∧ inField (neighbourhood 10240 128) 1280 1024 = true ∧ inField (neighbourhood (-1) 128) 1280 1024 = false
      ∧ glareMember [0, 2] 9 = true ∧ glareMember [] 1020 = false := by decide

/-! ## Witnesses: the laws -/

/-- An armed trigger with a mark, a tick waiting. -/
def lawful : State := { armedAt (some 25284) 25284 .running with
  odo := { twoWheels with w1 := 25284, w2 := 25282, p := 25284 }, mem := [(4, 1)], pending := [.supplyTick 20000] }

theorem witness_MemoryLawKept : MemoryLaw lawful ∧ ∃ t, step lawful = .next t := ⟨by decide, ⟨_, rfl⟩⟩

theorem witness_OdometerAndSupplyLawsKept : OdometerLaw lawful.odo ∧ SupplyLaw lawful.supply :=
  ⟨⟨by decide, by decide, by decide, by decide, by decide⟩, ⟨by decide, by decide⟩⟩

theorem witness_AttentionLawKept : AttentionLaw lawful := ⟨by decide, by decide⟩

theorem witness_SlotLawKept : SlotLaw lawful ∧ ∀ read timers rest, lawful.pending ≠ .settingsLoadEnd read timers :: rest := by
  have h (i : Nat) : lawful.slot i = Slot.empty := by
    show (List.replicate 3 Slot.empty).getD i Slot.empty = Slot.empty
    rw [List.getD_eq_getElem?_getD, List.getElem?_replicate]
    split <;> rfl
  refine ⟨⟨?_, ?_, ?_, ?_, by decide⟩, fun _ _ _ => nofun⟩
  · intro i
    rw [h i]
    exact ⟨nofun, nofun⟩
  · intro i hf
    rw [h i] at hf
    exact absurd hf nofun
  · intro i hf
    rw [h i] at hf
    exact absurd hf nofun
  · exact nofun

theorem witness_AlignmentLawKept : AlignmentLaw lawful := by
  refine ⟨?_, ?_⟩ <;> intro l <;> match l with
  | 0 => first | exact fun _ => by decide | exact nofun
  | 1 => first | exact fun _ => by decide | exact nofun
  | 2 => first | exact fun _ => by decide | exact nofun
  | 3 => first | exact fun _ => by decide | exact nofun

theorem witness_MapAndTriggerLawsKept :
    MapLaw lawful.map ∧ TriggerLaw lawful ∧ lawful.trigger.hw = some 25284 ∧ ∃ t, step lawful = .next t ∧ t.trigger.hw = some 25284 :=
  ⟨empty_map_law _ rfl rfl rfl, ⟨by decide, by decide⟩, by decide, ⟨_, rfl, rfl⟩⟩

end Sys2Proof.Tests
end

/-! SUPPORT. What the register accesses and TAKE do on a port that answers (R4, R12, R17, R18), and the statements about
them. -/

namespace Sys2Proof.Machine

/-! ## Accesses on a port that answers (R13) -/

theorem portAccess_of_portFree {s : State} (free : PortFree s) (c : Instr) : portAccess c s = runAccess c s := by
  simp [portAccess, free]

theorem exec_anchor_of_portFree {s : State} (free : PortFree s) (v : Word) :
    exec (.anchor v) s = .next (writeAnchor v s) :=
  congrArg Host.Outcome.next (portAccess_of_portFree free (.anchor v))

theorem exec_attentionWrite_of_portFree {s : State} (free : PortFree s) (v : Word) :
    exec (.attentionWrite v) s = .next (writeAttention v s) :=
  congrArg Host.Outcome.next (portAccess_of_portFree free (.attentionWrite v))

theorem exec_attentionRead_of_portFree {s : State} (free : PortFree s) (enables : BitVec 4) :
    exec (.attentionRead enables) s = .next (readAttention enables s) :=
  congrArg Host.Outcome.next (portAccess_of_portFree free (.attentionRead enables))

theorem exec_take_of_portFree {s : State} (free : PortFree s) (l : LaneId) :
    exec (.take l) s = .next (screened true (ruleTake l) s) :=
  congrArg Host.Outcome.next (portAccess_of_portFree free (.take l))

/-! ## ANCHOR (R4) -/

theorem anchorAllowed_iff (s : State) :
    anchorAllowed s = true ↔
      s.port.config ≠ .loading ∧ (∀ l, (s.lane l).state = .idle) ∧ s.exposure.inFlight = none := by
  simp [anchorAllowed, State.headFree, mem_allLanes, and_assoc]

theorem writeAnchor_of_allowed {s : State} (ok : anchorAllowed s = true) (v : Word) :
    writeAnchor v s
      = { s with port.anchor := v &&& 0xFFFFFF00#32, port.result := .accepted, port.config := .loading } := by
  simp [writeAnchor, ok]

theorem writeAnchor_of_refused {s : State} (no : ¬ anchorAllowed s = true) (v : Word) :
    writeAnchor v s = s.answered .busy := by
  simp only [writeAnchor, if_neg no]
  rfl

/-- Settles O10, by the two outcomes of R4's test, `anchorAllowed`. -/
theorem anchorWrite : Obligations.AnchorWrite := by
  intro v s free
  rw [exec_anchor_of_portFree free v, ← anchorAllowed_iff s]
  constructor
  · intro ok
    rw [writeAnchor_of_allowed ok v]
    refine ⟨rfl, fun t ht => ?_⟩
    cases ht
    rfl
  · intro no
    rw [writeAnchor_of_refused no v]

/-! ## TAKE (R12) -/

theorem screened_of_loading {s : State} (loading : s.port.config = .loading) (exempt : Bool) (order : State → State) :
    screened exempt order s = s.answered .busy := by
  simp only [screened, loading]
  rfl

/-- TAKE and SNAP go to their own rule on an UNCONFIGURED part too (R2). -/
theorem screened_exempt_of_not_loading {s : State} (ready : s.port.config ≠ .loading) (order : State → State) :
    screened true order s = order s := by
  cases hc : s.port.config with
  | loading => exact absurd hc ready
  | unconfigured => simp [screened, hc]
  | configured => simp [screened, hc]

theorem ruleTake_of_pending {l : LaneId} {s : State} (pending : (s.lane l).statusPending = true) :
    ruleTake l s = { s with
      port.result := .accepted
      port.queues := s.port.queues.map (fun q => q.filter (fun m => decide (m ≠ l)))
      lanes := s.lanes.set l { s.lane l with statusPending := false, kinds := {}, reasons := {}, notes := 0 } } := by
  simp only [ruleTake, if_pos pending]
  rfl

theorem ruleTake_of_not_pending {l : LaneId} {s : State} (nothing : (s.lane l).statusPending = false) :
    ruleTake l s = s.answered .pending := by
  simp [ruleTake, nothing, State.withResult, State.answered]

/-- Settles O17: the screening, which exempts TAKE, then TAKE's own rule for either status. -/
theorem takeOrder : Obligations.TakeOrder := by
  intro l s free
  rw [exec_take_of_portFree free l]
  refine ⟨fun loading => ?_, fun ready pending => ?_, fun ready nothing => ?_, rfl, rfl⟩
  · rw [screened_of_loading loading]
  · rw [screened_exempt_of_not_loading ready, ruleTake_of_pending pending]
  · rw [screened_exempt_of_not_loading ready, ruleTake_of_not_pending nothing]

/-! ## The ATTN_N pin and the mask (R17) -/

theorem attnN_eq_false_iff (s : State) :
    s.attnN = false ↔ ∃ c : LaneId, s.port.mask.getLsbD c.val = true ∧ s.port.queues.get c ≠ [] := by
  simp [State.attnN, State.attnAsserted, mem_allLanes]

/-- The mask and the pin after either reset. -/
theorem mask_and_attnN_of_port_reset {s : State} (h : s.port = Port.reset) : s.port.mask = 0 ∧ s.attnN = true := by
  simp only [State.attnN, State.attnAsserted, h]
  decide

theorem writeAttention_eq (v : Word) (s : State) : writeAttention v s = { s with port.mask := v.extractLsb' 0 4 } := by
  rw [writeAttention, BitVec.setWidth_eq_extractLsb' (by decide)]

/-- Settles O11; both resets leave the port as `Port.reset`. -/
theorem attentionWrite : Obligations.AttentionWrite := by
  refine ⟨fun v s free => ?_, attnN_eq_false_iff, fun _ _ => rfl, fun s t pins ht => ?_, fun s t left ht => ?_⟩
  · rw [exec_attentionWrite_of_portFree free v, writeAttention_eq]
  · cases ht
    exact mask_and_attnN_of_port_reset rfl
  · cases ht
    exact mask_and_attnN_of_port_reset rfl

/-! ## The next lane (R18) -/

theorem allLanes_find?_eq_some {q : LaneId → Bool} {c : LaneId} (hit : q c = true) (first : ∀ d < c, q d = false) :
    allLanes.find? q = some c := by
  match c with
  | 0 => simp [allLanes, hit]
  | 1 => simp [allLanes, hit, first 0 (by decide)]
  | 2 => simp [allLanes, hit, first 0 (by decide), first 1 (by decide)]
  | 3 => simp [allLanes, hit, first 0 (by decide), first 1 (by decide), first 2 (by decide)]

theorem nextLane_eq_seven {s : State}
    (idle : ∀ c : LaneId, s.port.mask.getLsbD c.val = true → s.port.queues.get c = []) : nextLane s = 7 := by
  have miss : allLanes.find? (fun c => s.port.mask.getLsbD c.val && !(s.port.queues.get c).isEmpty) = none := by
    simpa using fun c _ => idle c
  rw [nextLane, miss]

theorem nextLane_eq_head {s : State} {c l : LaneId} {rest : List LaneId} (enabled : s.port.mask.getLsbD c.val = true)
    (queue : s.port.queues.get c = l :: rest)
    (first : ∀ d : LaneId, d < c → s.port.mask.getLsbD d.val = true → s.port.queues.get d = []) :
    nextLane s = l.val := by
  have hit : allLanes.find? (fun c => s.port.mask.getLsbD c.val && !(s.port.queues.get c).isEmpty) = some c :=
    allLanes_find?_eq_some (by simp [enabled, queue]) (by simpa using first)
  simp only [nextLane, hit, queue]

theorem nextLane_lt_eight (s : State) : nextLane s < 8 := by
  unfold nextLane
  split
  · split <;> omega
  · omega

/-! ## The word that ATTENTION reads (R18) -/

theorem extractLsb'_eq_ofNat {w : Word} {start len v : Nat} (value : w.toNat / 2 ^ start % 2 ^ len = v % 2 ^ len) :
    w.extractLsb' start len = BitVec.ofNat len v := by
  apply BitVec.eq_of_toNat_eq
  rw [BitVec.extractLsb'_toNat, Nat.shiftRight_eq_div_pow, value, BitVec.toNat_ofNat]

theorem getLsbD_eq_of_toNat {w : Word} {i : Nat} {b : Bool} (value : w.toNat / 2 ^ i % 2 = b.toNat) :
    w.getLsbD i = b := by
  rw [BitVec.getLsbD, Nat.testBit_eq_decide_div_mod_eq, value]
  cases b <;> rfl

theorem flagAt_eq_mul_toNat (bit : Nat) (b : Bool) : flagAt bit b = 2 ^ bit * b.toNat := by
  cases b <;> simp [flagAt]

/-- The pending bit of class `c`: its queue has a lane. -/
def State.classPending (s : State) (c : LaneId) : Bool := !(s.port.queues.get c).isEmpty

theorem State.classPending_iff (s : State) (c : LaneId) : s.classPending c = true ↔ s.port.queues.get c ≠ [] := by
  simp [State.classPending]

theorem attentionWord_eq_ofNat (s : State) :
    attentionWord s = BitVec.ofNat 32
      (2 ^ 0 * (s.classPending 0).toNat + 2 ^ 1 * (s.classPending 1).toNat + 2 ^ 2 * (s.classPending 2).toNat
        + 2 ^ 3 * (s.classPending 3).toNat + 2 ^ 4 * nextLane s + 2 ^ 8 * s.port.recordFault.toNat
        + 2 ^ 16 * s.port.mask.toNat) := by
  simp only [attentionWord, flagAt_eq_mul_toNat]
  rfl

/-- The fields of the word that ATTENTION reads: none overlaps another, and the bits between them are 0. -/
theorem attentionWord_fields (s : State) :
    (∀ c : LaneId, (attentionWord s).getLsbD c.val = s.classPending c)
      ∧ (attentionWord s).extractLsb' 4 3 = BitVec.ofNat 3 (nextLane s)
      ∧ (attentionWord s).getLsbD 8 = s.port.recordFault
      ∧ (attentionWord s).extractLsb' 16 4 = s.port.mask
      ∧ (attentionWord s).getLsbD 7 = false
      ∧ (attentionWord s).extractLsb' 9 7 = 0
      ∧ (attentionWord s).extractLsb' 20 12 = 0 := by
  have next := nextLane_lt_eight s
  have mask := s.port.mask.isLt
  have pending0 := Bool.toNat_le (s.classPending 0)
  have pending1 := Bool.toNat_le (s.classPending 1)
  have pending2 := Bool.toNat_le (s.classPending 2)
  have pending3 := Bool.toNat_le (s.classPending 3)
  have fault := Bool.toNat_le s.port.recordFault
  have value := congrArg BitVec.toNat (attentionWord_eq_ofNat s)
  rw [BitVec.toNat_ofNat, Nat.mod_eq_of_lt (by omega)] at value
  refine ⟨fun c => ?_, extractLsb'_eq_ofNat ?_, getLsbD_eq_of_toNat ?_, ?_,
    getLsbD_eq_of_toNat ?_, extractLsb'_eq_ofNat (v := 0) ?_, extractLsb'_eq_ofNat (v := 0) ?_⟩
  · match c with
    | 0 => exact getLsbD_eq_of_toNat (i := 0) (by omega)
    | 1 => exact getLsbD_eq_of_toNat (i := 1) (by omega)
    | 2 => exact getLsbD_eq_of_toNat (i := 2) (by omega)
    | 3 => exact getLsbD_eq_of_toNat (i := 3) (by omega)
  · omega
  · omega
  · rw [extractLsb'_eq_ofNat (v := s.port.mask.toNat) (by omega), BitVec.ofNat_toNat, BitVec.setWidth_eq]
  · simp only [Bool.toNat_false]; omega
  · omega
  · omega

/-! ## The bytes that a read addresses (R1) -/

/-- A read with these byte enables applies to every register the mask that it returns of a register of ones. -/
theorem addressedBytes_eq_and (enables : BitVec 4) (w : Word) :
    addressedBytes enables w = w &&& addressedBytes enables (BitVec.allOnes 32) := by
  simp only [addressedBytes, BitVec.allOnes_and]

theorem addressedBytes_full (w : Word) : addressedBytes 0xF w = w := by
  have mask : addressedBytes 0xF (BitVec.allOnes 32) = BitVec.allOnes 32 := by decide
  rw [addressedBytes_eq_and, mask, BitVec.and_allOnes]

theorem addressedBytes_byte {enables : BitVec 4} {i : Fin 4} (addressed : enables.getLsbD i.val = true) (w : Word) :
    (addressedBytes enables w).extractLsb' (8 * i.val) 8 = w.extractLsb' (8 * i.val) 8 := by
  have mask : ∀ (e : BitVec 4) (j : Fin 4), e.getLsbD j.val = true →
      (addressedBytes e (BitVec.allOnes 32)).extractLsb' (8 * j.val) 8 = BitVec.allOnes 8 := by decide
  rw [addressedBytes_eq_and, BitVec.extractLsb'_and, mask enables i addressed, BitVec.and_allOnes]

/-- Settles O12: the answer of a full read is the ATTENTION word, that of a partial read its addressed bytes. -/
theorem attentionRead : Obligations.AttentionRead := by
  intro s free
  obtain ⟨pending, next, fault, mask, bit7, bits9, bits20⟩ := attentionWord_fields s
  refine ⟨attentionWord s, ?_, fun c => ?_, fun idle => ?_, fun c l rest enabled queue first => ?_, fault, mask, bit7,
    bits9, bits20, fun enables _ => ⟨addressedBytes enables (attentionWord s), ?_, fun i addressed => ?_⟩⟩
  · rw [exec_attentionRead_of_portFree free, readAttention, addressedBytes_full]
  · rw [pending c, State.classPending_iff]
  · rw [next, nextLane_eq_seven idle]
    rfl
  · rw [next, nextLane_eq_head enabled queue first]
  · rw [exec_attentionRead_of_portFree free, readAttention]
  · exact addressedBytes_byte addressed (attentionWord s)

end Sys2Proof.Machine

/-! SUPPORT. What a wheel's QUAD decoder makes of a new accepted pair (R39, R40), and the statement about it. -/

namespace Sys2Proof.Machine

@[simp] theorem Odometer.decoderPair_withPair (o : Odometer) (w : Wheel) (q : Bool × Bool) :
    (o.withPair w q).decoderPair w = q := by
  cases w <;> rfl

theorem decoderPair_takePair (w : Wheel) (o : Odometer) : (takePair w o).decoderPair w = o.accepted.pair w :=
  Odometer.decoderPair_withPair _ w _

/-! ## The transition table (R40) -/

/-- The column "up" of the table in closed form: A leads B when A takes the opposite of B's old level and B takes A's. -/
theorem quadDecode_up (old : Bool × Bool) : quadDecode old (!old.2, old.1) = .up :=
  match old with
  | (false, false) => rfl
  | (false, true) => rfl
  | (true, false) => rfl
  | (true, true) => rfl

/-- The column "down" of the table in closed form: B leads A, with the roles of `quadDecode_up` exchanged. -/
theorem quadDecode_down (old : Bool × Bool) : quadDecode old (old.2, !old.1) = .down :=
  match old with
  | (false, false) => rfl
  | (false, true) => rfl
  | (true, false) => rfl
  | (true, true) => rfl

theorem quadDecode_error {old new : Bool × Bool} (a : new.1 ≠ old.1) (b : new.2 ≠ old.2) :
    quadDecode old new = .error := by
  have changed : old ≠ new := fun same => a (congrArg Prod.fst same.symm)
  simp only [quadDecode, if_neg changed, if_pos (And.intro a.symm b.symm)]

/-! ## A wheel in QUAD -/

theorem decodeChange_of_quad {w : Wheel} {o : Odometer} (quad : o.mode w = .quad) (new : Bool × Bool) :
    decodeChange o w new = quadDecode (o.decoderPair w) new := by
  simp only [decodeChange, quad]

theorem takePair_of_quad {w : Wheel} {o : Odometer} {found : Decoded} (quad : o.mode w = .quad)
    (decoded : quadDecode (o.decoderPair w) (o.accepted.pair w) = found) :
    takePair w o = (applyDecoded w o found).withPair w (o.accepted.pair w) := by
  rw [takePair, decodeChange_of_quad quad, decoded]

theorem takePair_of_quad_up {w : Wheel} {o : Odometer} {old : Bool × Bool} (quad : o.mode w = .quad)
    (start : o.decoderPair w = old) (arrive : o.accepted.pair w = (!old.2, old.1)) :
    takePair w o = (countWheel w 1 o).withPair w (o.accepted.pair w) :=
  takePair_of_quad (found := .up) quad (by rw [start, arrive, quadDecode_up])

theorem takePair_of_quad_down {w : Wheel} {o : Odometer} {old : Bool × Bool} (quad : o.mode w = .quad)
    (start : o.decoderPair w = old) (arrive : o.accepted.pair w = (old.2, !old.1)) :
    takePair w o = (countWheel w (-1) o).withPair w (o.accepted.pair w) :=
  takePair_of_quad (found := .down) quad (by rw [start, arrive, quadDecode_down])

theorem takePair_of_quad_error {w : Wheel} {o : Odometer} (quad : o.mode w = .quad)
    (a : (o.accepted.pair w).1 ≠ (o.decoderPair w).1) (b : (o.accepted.pair w).2 ≠ (o.decoderPair w).2) :
    takePair w o = (o.phaseError w).withPair w (o.accepted.pair w) :=
  takePair_of_quad (found := .error) quad (quadDecode_error a b)

/-- The accepted level of DIR plays no part in QUAD (R40). -/
theorem decodeChange_dir_of_quad {w : Wheel} {o : Odometer} (quad : o.mode w = .quad) (b : Bool) (new : Bool × Bool) :
    decodeChange { o with accepted := { o.accepted with dir := b } } w new = decodeChange o w new := by
  have quad' : Odometer.mode { o with accepted := { o.accepted with dir := b } } w = .quad := quad
  rw [decodeChange_of_quad quad, decodeChange_of_quad quad']
  rfl

/-- Settles O49: each row of R40's table is an instance of the closed forms of its two columns. -/
theorem quadDecoder : Obligations.QuadDecoder := by
  intro w o quad
  refine ⟨fun start => ⟨takePair_of_quad_up quad start, takePair_of_quad_down quad start⟩,
    fun start => ⟨takePair_of_quad_up quad start, takePair_of_quad_down quad start⟩,
    fun start => ⟨takePair_of_quad_up quad start, takePair_of_quad_down quad start⟩,
    fun start => ⟨takePair_of_quad_up quad start, takePair_of_quad_down quad start⟩,
    fun a b one => ?_, fun a b two => ?_, decoderPair_takePair w o,
    fun b => decodeChange_dir_of_quad quad b (o.accepted.pair w)⟩
  · subst one
    exact takePair_of_quad_error quad a b
  · subst two
    exact takePair_of_quad_error quad a b

end Sys2Proof.Machine

/-! SUPPORT. What the levels and the compensation factor of an exposure are (R55, R56), and the statement about them. -/

namespace Sys2Proof.Machine

/-! ## The stretched time (R55): the least time that gives the light asked for -/

theorem le_stretchedTime_mul (lReq tReq : Nat) {lUsed : Nat} (lit : 1 ≤ lUsed) :
    tReq * lReq ≤ stretchedTime lReq tReq lUsed * lUsed := by
  have above : tReq * lReq + (lUsed - 1) < stretchedTime lReq tReq lUsed * lUsed + lUsed := Nat.lt_div_mul_add lit
  omega

theorem stretchedTime_mul_lt (lReq tReq : Nat) {lUsed : Nat} (lit : 1 ≤ lUsed) :
    stretchedTime lReq tReq lUsed * lUsed < tReq * lReq + lUsed := by
  have below : stretchedTime lReq tReq lUsed * lUsed ≤ tReq * lReq + (lUsed - 1) := Nat.div_mul_le_self _ _
  omega

/-! ## The used levels (R55) -/

theorem usedLevels_normal (cap ceiling lReq tReq : Nat) :
    usedLevels false cap ceiling lReq tReq = ⟨lReq, tReq, false, false⟩ := rfl

@[simp] theorem usedLevels_derate_lUsed (cap ceiling lReq tReq : Nat) :
    (usedLevels true cap ceiling lReq tReq).lUsed = min lReq cap := rfl

theorem usedLevels_derate_tUsed (cap ceiling lReq tReq : Nat) :
    (usedLevels true cap ceiling lReq tReq).tUsed = min ceiling (stretchedTime lReq tReq (min lReq cap)) := rfl

theorem usedLevels_derate_derated_iff (cap ceiling lReq tReq : Nat) :
    (usedLevels true cap ceiling lReq tReq).derated = true
      ↔ (usedLevels true cap ceiling lReq tReq).lUsed ≠ lReq ∨ (usedLevels true cap ceiling lReq tReq).tUsed ≠ tReq :=
  decide_eq_true_iff

theorem usedLevels_derate_timeClipped_iff (cap ceiling lReq tReq : Nat) :
    (usedLevels true cap ceiling lReq tReq).timeClipped = true ↔ ceiling < stretchedTime lReq tReq (min lReq cap) :=
  decide_eq_true_iff

/-! ## The compensation factor (R56) -/

theorem compensation_le (lReq tReq lUsed tUsed : Nat) : compensation lReq tReq lUsed tUsed ≤ 16383 :=
  Nat.min_le_left _ _

theorem compensation_eq_ite (lReq tReq lUsed tUsed : Nat) :
    compensation lReq tReq lUsed tUsed =
      if 16383 < (4096 * lReq * tReq + lUsed * tUsed / 2) / (lUsed * tUsed) then 16383
      else (4096 * lReq * tReq + lUsed * tUsed / 2) / (lUsed * tUsed) := by
  unfold compensation
  split <;> omega

/-- With the light as asked the ratio is exact: the rounding term is below one part of the divisor. -/
theorem compensation_of_same_light {lReq tReq lUsed tUsed : Nat} (same : lUsed * tUsed = lReq * tReq)
    (asked : 0 < lReq * tReq) : compensation lReq tReq lUsed tUsed = 4096 := by
  have exact_ratio : (4096 * lReq * tReq + lUsed * tUsed / 2) / (lUsed * tUsed) = 4096 := by
    rw [same, Nat.mul_assoc, Nat.mul_comm 4096, Nat.mul_add_div asked,
      Nat.div_eq_of_lt (Nat.div_lt_self asked Nat.one_lt_two)]
  rw [compensation, exact_ratio]
  rfl

/-- Settles O39: the bounds on the stretched time hold because the light used is at least 1, and E is exact where the light is
as asked because the request asks for some light. -/
theorem exposureLight : Obligations.ExposureLight := by
  intro lReq tReq cap ceiling lLow _ tLow _ capLow _ _ _ n d want e factor
  have lit : 1 ≤ d.lUsed := Nat.le_min.mpr ⟨lLow, capLow⟩
  have asked : 0 < lReq * tReq := Nat.mul_pos lLow (by omega)
  exact ⟨usedLevels_normal cap ceiling lReq tReq, compensation_of_same_light rfl asked,
    usedLevels_derate_lUsed cap ceiling lReq tReq, Nat.min_le_left _ _, Nat.min_le_right _ _, lit,
    le_stretchedTime_mul lReq tReq lit, stretchedTime_mul_lt lReq tReq lit,
    usedLevels_derate_tUsed cap ceiling lReq tReq, usedLevels_derate_derated_iff cap ceiling lReq tReq,
    usedLevels_derate_timeClipped_iff cap ceiling lReq tReq,
    compensation_eq_ite lReq tReq d.lUsed d.tUsed, compensation_le lReq tReq d.lUsed d.tUsed,
    fun same => compensation_of_same_light same asked⟩

end Sys2Proof.Machine

/-! SUPPORT. The bridging lemmas of lists and slots, and the laws that every step keeps, each with what it needs to stand. -/

namespace Sys2Proof.Machine

-- One proof after another: with proofs side by side the text asks for more threads than the check has room for.
set_option Elab.async false

/-! ## The list operations of the model in the library's terms -/

theorem updateAt_eq_modify {α : Type} (f : α → α) (i : Nat) (xs : List α) : updateAt f i xs = xs.modify i f := by
  induction xs generalizing i with
  | nil => cases i <;> simp [updateAt]
  | cons x xs ih => cases i <;> simp [updateAt, ih]

theorem removeAt_eq_eraseIdx {α : Type} (i : Nat) (xs : List α) : removeAt i xs = xs.eraseIdx i := by
  induction xs generalizing i with
  | nil => cases i <;> rfl
  | cons x xs ih => cases i <;> simp [removeAt, ih]

theorem firstIndex_eq_findIdx? {α : Type} (q : α → Bool) (xs : List α) : firstIndex q xs = xs.findIdx? q := by
  induction xs with
  | nil => rfl
  | cons x xs ih => simp [firstIndex, List.findIdx?_cons, ih]

theorem mem_positions_iff {α : Type} {q : α → Bool} {xs : List α} {i j : Nat} :
    j ∈ positions q i xs ↔ i ≤ j ∧ ∃ x, xs[j - i]? = some x ∧ q x = true := by
  induction xs generalizing i with
  | nil => simp [positions]
  | cons x xs ih =>
    have shift : j ∈ positions q (i + 1) xs ↔ i < j ∧ ∃ y, (x :: xs)[j - i]? = some y ∧ q y = true := by
      rw [ih]
      refine and_congr_right fun lt => ?_
      rw [show j - i = j - (i + 1) + 1 by omega, List.getElem?_cons_succ]
    by_cases here : j = i
    · subst here; by_cases hx : q x <;> simp [positions, hx, shift]
    · have : i < j ↔ i ≤ j := by omega
      by_cases hx : q x <;> simp [positions, hx, shift, here, this]

theorem countP_updateAt_le {α : Type} {q : α → Bool} {f : α → α} {i : Nat} {xs : List α}
    (h : ∀ x, xs[i]? = some x → q (f x) = true → q x = true) : (updateAt f i xs).countP q ≤ xs.countP q := by
  induction xs generalizing i with
  | nil => cases i <;> simp [updateAt]
  | cons x xs ih =>
    cases i with
    | zero =>
      have := h x rfl
      by_cases hf : q (f x) <;> simp_all [updateAt, List.countP_cons]
    | succ i => have := ih (i := i) h; simp only [updateAt, List.countP_cons]; omega

theorem countP_updateAt_le_succ {α : Type} (q : α → Bool) (f : α → α) (i : Nat) (xs : List α) :
    (updateAt f i xs).countP q ≤ xs.countP q + 1 := by
  induction xs generalizing i with
  | nil => cases i <;> simp [updateAt]
  | cons x xs ih =>
    cases i with
    | zero => simp only [updateAt, List.countP_cons]; split <;> split <;> omega
    | succ i => have := ih i; simp only [updateAt, List.countP_cons]; omega

theorem countP_map_le {α : Type} {q : α → Bool} {f : α → α} (h : ∀ x, q (f x) = true → q x = true) (xs : List α) :
    (xs.map f).countP q ≤ xs.countP q := by
  rw [List.countP_map]
  exact List.countP_mono_left fun x _ hx => h x hx

/-! ## Slots by number -/

theorem State.slot_of_length_le {s : State} {i : Nat} (h : s.slots.length ≤ i) : s.slot i = Slot.empty := by
  simp [State.slot, List.getElem?_eq_none h]

theorem State.getElem?_slots {s : State} {i : Nat} (h : i < s.slots.length) : s.slots[i]? = some (s.slot i) := by
  simp [State.slot, List.getElem?_eq_getElem h]

theorem State.slot_setSlot (s : State) (i j : Nat) (f : Slot → Slot) :
    (s.setSlot i f).slot j = if j = i ∧ j < s.slots.length then f (s.slot j) else s.slot j := by
  have entry : (s.setSlot i f).slot j = ((if j = i then s.slots[j]?.map f else s.slots[j]?)).getD Slot.empty := by
    simp [State.slot, updateAt_getElem?]
  rw [entry]
  by_cases hj : j < s.slots.length
  · rw [State.getElem?_slots hj]
    by_cases hi : j = i
    · rw [if_pos hi, if_pos ⟨hi, hj⟩]; rfl
    · rw [if_neg hi, if_neg fun h => hi h.1]; rfl
  · have out : s.slots[j]? = none := List.getElem?_eq_none (by omega)
    simp [hj, State.slot]

theorem State.slot_map (s t : State) (f : Slot → Slot) (h : t.slots = s.slots.map f) (empty : f Slot.empty = Slot.empty)
    (i : Nat) : t.slot i = f (s.slot i) := by
  by_cases hi : i < s.slots.length
  · simp [State.slot, h, hi]
  · simp [State.slot, h, List.getElem?_eq_none (Nat.le_of_not_lt hi), empty]

/-! ## Allocation (R77) -/

theorem lowerSeq_eq_or (s : State) (a b : Nat) : lowerSeq s a b = a ∨ lowerSeq s a b = b := by
  unfold lowerSeq; split <;> simp

theorem higherSeq_eq_or (s : State) (a b : Nat) : higherSeq s a b = a ∨ higherSeq s a b = b := by
  unfold higherSeq; split <;> simp

/-- A choice between two, folded over a list, is of the list. -/
theorem foldl_choice_mem {f : Nat → Nat → Nat} (choice : ∀ a b, f a b = a ∨ f a b = b) (i : Nat) (is : List Nat) :
    is.foldl f i ∈ i :: is := by
  induction is generalizing i with
  | nil => simp
  | cons j js ih =>
    rw [List.foldl_cons]
    rcases List.mem_cons.mp (ih (f i j)) with h | h
    · rw [h]; rcases choice i j with e | e <;> simp [e]
    · simp [h]

theorem allocate_open {s : State} {i : Nat} (h : allocate s = some i) :
    i < s.slots.length ∧ ((s.slot i).state = .free ∨ (s.slot i).state = .done) := by
  unfold allocate at h
  split at h
  next j hj =>
    obtain rfl : j = i := by simpa using h
    rw [firstIndex_eq_findIdx?] at hj
    obtain ⟨lt, free, -⟩ := List.findIdx?_eq_some_iff_getElem.mp hj
    exact ⟨lt, .inl (by simpa [State.slot, lt] using free)⟩
  next =>
    split at h
    · cases h
    next j js hjs =>
      have mem : i ∈ positions (fun x => decide (x.state = .done)) 0 s.slots := by
        rw [hjs, ← Option.some.inj h]; exact foldl_choice_mem (lowerSeq_eq_or s) j js
      obtain ⟨-, x, hx, done⟩ := mem_positions_iff.mp mem
      obtain ⟨lt, e⟩ := List.getElem?_eq_some_iff.mp (by simpa using hx)
      exact ⟨lt, .inr (by simpa [State.slot, lt, e] using done)⟩

theorem keepCandidate_keepable {s : State} {i : Nat} (h : keepCandidate s = some i) :
    i < s.slots.length ∧ (s.slot i).keepable = true := by
  unfold keepCandidate at h
  split at h
  · cases h
  next j js hjs =>
    have mem : i ∈ positions Slot.keepable 0 s.slots := by
      rw [hjs, ← Option.some.inj h]; exact foldl_choice_mem (higherSeq_eq_or s) j js
    obtain ⟨-, x, hx, keep⟩ := mem_positions_iff.mp mem
    obtain ⟨lt, e⟩ := List.getElem?_eq_some_iff.mp (by simpa using hx)
    exact ⟨lt, by simpa [State.slot, lt, e] using keep⟩

theorem boundSlot_bound {s : State} {l : LaneId} {t : Tag} {i : Nat} (h : boundSlot s l t = some i) :
    i < s.slots.length ∧ (s.slot i).binding = some (l, t) := by
  rw [boundSlot, firstIndex_eq_findIdx?] at h
  obtain ⟨lt, bound, -⟩ := List.findIdx?_eq_some_iff_getElem.mp h
  exact ⟨lt, by simpa [State.slot, lt] using bound⟩

/-! ## What the laws see of a lane -/

/-- The lane waits for the head in an EXPOSE. -/
def Stage.waitsForHead : Stage → Bool
  | .exposeWait _ => true
  | _ => false

theorem exposeWaiting_eq (s : State) (l : LaneId) : exposeWaiting s l = (s.lane l).stage.waitsForHead := rfl

@[simp] theorem Stage.waitsForHead_exposeWait (w : StepWord) : (Stage.exposeWait w).waitsForHead = true := rfl

/-- The law of step addresses for one lane (R23). -/
def Lane.Aligned (x : Lane) : Prop :=
  (x.addressed → x.programAddr.toNat % 32 = 0) ∧ ∀ t : Word, x.stage = .doneWrite (.jump t) → t.toNat % 32 = 0

theorem alignmentLaw_iff (s : State) : AlignmentLaw s ↔ ∀ l, (s.lane l).Aligned :=
  ⟨fun h l => ⟨h.address l, h.target l⟩, fun h => ⟨fun l => (h l).1, fun l => (h l).2⟩⟩

/-- A lane that keeps its address, and has one only where it had one, is aligned still. -/
theorem Lane.Aligned.of_addressed {x y : Lane} (addr : y.programAddr = x.programAddr) (had : y.addressed → x.addressed)
    (noJump : ∀ t, y.stage = .doneWrite (.jump t) → x.stage = .doneWrite (.jump t)) (h : x.Aligned) : y.Aligned :=
  ⟨fun a => by rw [addr]; exact h.1 (had a), fun t e => h.2 t (noJump t e)⟩

/-! ## What the laws see of a slot -/

/-- The slot counts among the kept claims: KEPT, or being filled by a patch frame that is not orphaned (R82). -/
def Slot.claimed (x : Slot) : Bool :=
  decide (x.state = .kept) || (decide (x.state = .filling) && x.holds .patch && !x.orphan)

theorem keptClaims_eq (s : State) :
    keptClaims s = s.slots.countP Slot.claimed + allLanes.countP (exposeWaiting s) := by
  have split : ∀ xs : List Slot, xs.countP Slot.claimed = (xs.filter fun x => decide (x.state = .kept)).length
      + (xs.filter fun x => decide (x.state = .filling) && x.holds .patch && !x.orphan).length := by
    intro xs
    induction xs with
    | nil => rfl
    | cons x xs ih =>
      rw [List.countP_cons, ih]
      cases hst : x.state <;> by_cases hp : x.holds .patch <;> by_cases ho : x.orphan <;>
        simp [Slot.claimed, hst, hp, ho] <;> omega
  rw [keptClaims, split, List.countP_eq_length_filter]

/-- A change of a slot that the law of the slot table does not mind, but for the kept claims. -/
structure SlotShift (x y : Slot) : Prop where
  filling : y.state = .filling ↔ x.state = .filling
  record : y.record = x.record ∨ (x.state ≠ .filling ∧ x.state ≠ .ready)
  bound : (x.binding.isSome = true → x.state = .kept) → y.binding.isSome = true → y.state = .kept
  ready : x.state = .ready → y.state = .ready

/-- A change of a slot that the law of the slot table does not mind. -/
structure SlotMove (x y : Slot) : Prop extends SlotShift x y where
  claimed : y.claimed = true → x.claimed = true

theorem SlotMove.refl (x : Slot) : SlotMove x x := ⟨⟨Iff.rfl, .inl rfl, id, id⟩, id⟩

theorem Slot.surveyFrameOf_congr {x y : Slot} (h : y.record = x.record) (l : LaneId) :
    y.surveyFrameOf l = x.surveyFrameOf l := by
  unfold Slot.surveyFrameOf; rw [h]

/-! ## The laws -/

/-- The laws that steps keep, with the queue of commands, which no command touches. `trigger mark pitch` is the law of the survey trigger
with its memory of an earlier high-water mark: while armed, the mark is that one still or has risen by `pitch` or more. -/
inductive Law where
  | memory | odometer | supply | attention | slots | alignment | map
  | trigger (mark : Option Int) (pitch : Nat)
  | queue (waiting : List Instr)

/-- The high-water mark since it was `mark` (R59): unless disarmed, it is that still or at least `pitch` further. -/
def MarkSince (mark : Option Int) (pitch : Nat) (t : Trigger) : Prop :=
  ∀ h, mark = some h → t.armed = none ∨ (t.pitch = pitch ∧ ∃ k, t.hw = some k ∧ (k = h ∨ h + pitch ≤ k))

/-- The law of the trigger with its memory. -/
structure TriggerHeld (mark : Option Int) (pitch : Nat) (s : State) : Prop where
  law : TriggerLaw s
  since : MarkSince mark pitch s.trigger

/-- What a law says of a state. -/
def Law.Holds : Law → State → Prop
  | .memory, s => MemoryLaw s
  | .odometer, s => OdometerLaw s.odo
  | .supply, s => SupplyLaw s.supply
  | .attention, s => AttentionLaw s
  | .slots, s => SlotLaw s
  | .alignment, s => AlignmentLaw s
  | .map, s => MapLaw s.map
  | .trigger mark pitch, s => TriggerHeld mark pitch s
  | .queue waiting, s => s.pending = waiting

/-- The law `k`, if it holds of `s`, holds of `t`. -/
structure Law.Keeps (k : Law) (s t : State) : Prop where
  holds : k.Holds s → k.Holds t

theorem Law.Keeps.refl (k : Law) (s : State) : k.Keeps s s := ⟨id⟩

theorem Law.Keeps.trans {k : Law} {s t u : State} (h : k.Keeps s t) (g : k.Keeps t u) : k.Keeps s u := ⟨g.holds ∘ h.holds⟩

/-- Two changes, the later one first. -/
theorem Law.Keeps.after {k : Law} {s t u : State} (g : k.Keeps t u) (h : k.Keeps s t) : k.Keeps s u := h.trans g

/-- The law may be used where it is to be kept. -/
theorem Law.Keeps.of_law {k : Law} {s t : State} (h : k.Holds s → k.Keeps s t) : k.Keeps s t := ⟨fun law => (h law).holds law⟩

/-- A change of a lane that the laws of the slots and of the addresses do not mind: for the law of the slots it does not begin to wait for
the head, and for the law of the addresses its address is still aligned. -/
structure LaneShift (k : Law) (x y : Lane) : Prop where
  waits : k = .slots → y.stage.waitsForHead = true → x.stage.waitsForHead = true := by exact fun _ => id
  aligned : k = .alignment → x.Aligned → y.Aligned := by exact fun _ => id

/-- A change of a lane that no law minds: its class and its status stand too. -/
structure LaneMove (k : Law) (x y : Lane) : Prop extends LaneShift k x y where
  cls : y.cls = x.cls := by rfl
  status : y.statusPending = x.statusPending := by rfl

theorem LaneShift.refl (k : Law) (x : Lane) : LaneShift k x x := {}

/-! ## What each law needs to stand -/

theorem AttentionLaw.of_same {s t : State} (queues : t.port.queues = s.port.queues)
    (lanes : ∀ l, (t.lane l).statusPending = (s.lane l).statusPending ∧ (t.lane l).cls = (s.lane l).cls)
    (law : AttentionLaw s) : AttentionLaw t where
  member l c := by rw [queues, (lanes l).1, (lanes l).2]; exact law.member l c
  once c := by rw [queues]; exact law.once c

/-- No lane begins to wait for the head. -/
def NoNewWaiter (s t : State) : Prop := ∀ l, exposeWaiting t l = true → exposeWaiting s l = true

theorem countP_exposeWaiting_le {s t : State} (h : NoNewWaiter s t) :
    allLanes.countP (exposeWaiting t) ≤ allLanes.countP (exposeWaiting s) :=
  List.countP_mono_left fun l _ => h l

/-- The slot table, as its law sees it, moved: no slot but in ways that the law does not mind, and no survey request came. -/
structure SlotsMoved (s t : State) : Prop where
  moves : ∀ i, SlotShift (s.slot i) (t.slot i)
  inFlight : t.exposure.inFlight = s.exposure.inFlight := by simp
  requests : ∀ l i, Request.survey l i ∈ t.requests → Request.survey l i ∈ s.requests := by simp

/-- The slot law of a moved table, for which the claims have room. -/
theorem SlotsMoved.slotLaw {s t : State} (h : SlotsMoved s t) (room : SlotLaw s → keptClaims t + 2 ≤ t.intake.slotCount)
    (law : SlotLaw s) : SlotLaw t where
  filling i := by rw [(h.moves i).filling, law.filling, h.inFlight]
  recorded i filling := by
    have was := (h.moves i).filling.mp filling
    rcases (h.moves i).record with e | ⟨ne, -⟩
    · rw [e]; exact law.recorded i was
    · exact absurd was ne
  bound i := (h.moves i).bound (law.bound i)
  requested l i asked := by
    obtain ⟨ready, ofLane⟩ := law.requested l i (h.requests l i asked)
    rcases (h.moves i).record with e | ⟨-, ne⟩
    · exact ⟨(h.moves i).ready ready, (Slot.surveyFrameOf_congr e l).trans ofLane⟩
    · exact absurd ready ne
  claims := room law

/-- The claims have room still when none comes. -/
theorem SlotLaw.room_of_le {s t : State} (slots : t.slots.countP Slot.claimed ≤ s.slots.countP Slot.claimed)
    (waits : NoNewWaiter s t) (slotCount : t.intake.slotCount = s.intake.slotCount) (law : SlotLaw s) :
    keptClaims t + 2 ≤ t.intake.slotCount := by
  have room := law.claims
  have waiters := countP_exposeWaiting_le waits
  rw [keptClaims_eq] at room ⊢
  rw [slotCount]
  omega

theorem SlotLaw.of_same {s t : State} (slots : t.slots = s.slots) (inFlight : t.exposure.inFlight = s.exposure.inFlight)
    (requests : ∀ l i, Request.survey l i ∈ t.requests → Request.survey l i ∈ s.requests)
    (slotCount : t.intake.slotCount = s.intake.slotCount) (waits : NoNewWaiter s t) (law : SlotLaw s) : SlotLaw t :=
  SlotsMoved.slotLaw ⟨fun i => by simpa [State.slot, slots] using (SlotMove.refl _).toSlotShift, inFlight, requests⟩
    (SlotLaw.room_of_le (Nat.le_of_eq (by rw [slots])) waits slotCount) law

theorem TriggerLaw.of_same {s t : State} (trigger : t.trigger = s.trigger)
    (survey : s.map.ending = .none → s.map.phase = .surveying →
      t.map.lane = s.map.lane ∧ t.map.ending = s.map.ending ∧ t.map.phase = s.map.phase)
    (law : TriggerLaw s) : TriggerLaw t where
  armed l armed := by
    rw [trigger] at armed ⊢
    obtain ⟨lane, ending, phase, operands⟩ := law.armed l armed
    obtain ⟨sameLane, sameEnding, samePhase⟩ := survey ending phase
    exact ⟨sameLane.trans lane, sameEnding.trans ending, samePhase.trans phase, operands⟩
  disarmed := by rw [trigger]; exact law.disarmed

theorem TriggerHeld.of_same {mark : Option Int} {pitch : Nat} {s t : State} (trigger : t.trigger = s.trigger)
    (survey : s.map.ending = .none → s.map.phase = .surveying →
      t.map.lane = s.map.lane ∧ t.map.ending = s.map.ending ∧ t.map.phase = s.map.phase)
    (h : TriggerHeld mark pitch s) : TriggerHeld mark pitch t :=
  ⟨h.law.of_same trigger survey, trigger ▸ h.since⟩

/-! ## Steady changes -/

/-- A change of state that keeps the law `k`, law by law; each is kept by what the change leaves alone, unless said otherwise. -/
structure Steady (k : Law) (s t : State) : Prop where
  mem : t.mem = s.mem ∨ (MemoryLaw s → MemoryLaw t) := by simp
  odo : OdometerLaw s.odo → OdometerLaw t.odo := by simp
  supply : SupplyLaw s.supply → SupplyLaw t.supply := by simp
  attention : AttentionLaw s → AttentionLaw t := by exact AttentionLaw.of_same (by simp) (by simp [State.lane])
  lanes : ∀ l, LaneShift k (s.lane l) (t.lane l) := by simp [State.lane, LaneShift.refl]
  slots : k = .slots → NoNewWaiter s t → SlotLaw s → SlotLaw t := by
    exact fun _ => SlotLaw.of_same (by simp) (by simp) (by simp) (by simp)
  map : MapLaw s.map → MapLaw t.map := by simp
  trigger : ∀ mark pitch, k = .trigger mark pitch → TriggerHeld mark pitch s → TriggerHeld mark pitch t := by
    exact fun _ _ _ => TriggerHeld.of_same (by simp) (by simp)
  pending : t.pending = s.pending := by simp

theorem Law.Keeps.of_steady {k : Law} {s t : State} (h : Steady k s t) : k.Keeps s t := by
  constructor
  cases k with
  | memory => exact h.mem.elim (fun same law => by rw [Law.Holds, MemoryLaw, same]; exact law) id
  | odometer => exact h.odo
  | supply => exact h.supply
  | attention => exact h.attention
  | slots => exact h.slots rfl fun l => (h.lanes l).waits rfl
  | alignment =>
    exact fun law => (alignmentLaw_iff t).mpr fun l => (h.lanes l).aligned rfl ((alignmentLaw_iff s).mp law l)
  | map => exact h.map
  | trigger mark pitch => exact h.trigger mark pitch rfl
  | queue waiting => exact fun law => h.pending.trans law

end Sys2Proof.Machine

/-! SUPPORT. Every law kept: plain updates, status, the trigger's disarming, the course of a program, holds and the examination of a step. -/

namespace Sys2Proof.Machine

set_option Elab.async false

variable {k : Law}

/-! ## Plain updates -/

/-- A law of every lane, or a relation of it to what it was, after a change of one lane. -/
theorem State.forall_lane_setLane {s : State} {l : LaneId} {f : Lane → Lane} {q : LaneId → Lane → Prop} (here : q l (f (s.lane l)))
    (others : ∀ m, m ≠ l → q m (s.lane m)) (m : LaneId) : q m ((s.setLane l f).lane m) := by
  rw [State.lane_setLane]
  split
  · next h => subst h; exact here
  · next h => exact others m h

theorem State.setLane_keeps {s : State} {l : LaneId} {f : Lane → Lane} (move : LaneMove k (s.lane l) (f (s.lane l))) :
    k.Keeps s (s.setLane l f) :=
  .of_steady
    { attention := AttentionLaw.of_same rfl (State.forall_lane_setLane (s := s)
        (q := fun m y => y.statusPending = (s.lane m).statusPending ∧ y.cls = (s.lane m).cls) ⟨move.status, move.cls⟩ fun _ _ => ⟨rfl, rfl⟩)
      lanes := State.forall_lane_setLane (q := fun m => LaneShift k (s.lane m)) move.toLaneShift fun m _ => .refl _ _ }

theorem State.bump_keeps (s : State) (l : LaneId) (f : Counters → Counters) : k.Keeps s (s.bump l f) :=
  State.setLane_keeps {}

theorem State.withStores_keeps (s : State) (st : Stores) : k.Keeps s (s.withStores st) :=
  .of_steady { mem := .inr fun h => Memory.wf_afterStores h st }

theorem State.store_keeps (s : State) (a : Word) (bs : List Byte) : k.Keeps s (s.store a bs) :=
  .of_steady { mem := .inr fun h => Memory.wf_write h a bs }

theorem issueDone_keeps (l : LaneId) (addr : Word) (code : DoneCode) (results : List Byte) (note : Bool) (role : DoneRole) (s : State) :
    k.Keeps s (issueDone l addr code results note role s) :=
  .of_steady {}

/-! ## Status -/

/-- What raising status changes: the lane, its place in the queues, and the record write that it starts (R13). -/
theorem raiseStatus_eq (l : LaneId) (ks : Kinds) (r : Reasons) (s : State) :
    raiseStatus l ks r s = { s with
      lanes := s.lanes.modify l (Lane.raised · ks r)
      port.queues := if (s.lane l).statusPending then s.port.queues else s.port.queues.modify (s.lane l).cls (· ++ [l])
      statusWrites := (raiseStatus l ks r s).statusWrites } := by
  by_cases h : (s.lane l).statusPending <;> simp [raiseStatus, h, joinQueue, State.setLane, startStatusWrite]

theorem raiseStatus_queues (l : LaneId) (ks : Kinds) (r : Reasons) (s : State) :
    (raiseStatus l ks r s).port.queues
      = if (s.lane l).statusPending then s.port.queues else s.port.queues.modify (s.lane l).cls (· ++ [l]) := by
  rw [raiseStatus_eq]

@[simp] theorem raiseStatus_lane_same (l : LaneId) (ks : Kinds) (r : Reasons) (s : State) :
    (raiseStatus l ks r s).lane l = (s.lane l).raised ks r := by
  rw [raiseStatus_eq]; simp [State.lane]

theorem raiseStatus_lane_ne {l m : LaneId} (ne : m ≠ l) (ks : Kinds) (r : Reasons) (s : State) :
    (raiseStatus l ks r s).lane m = s.lane m := by
  rw [raiseStatus_eq]; simp [State.lane, Four.get_modify_ne _ _ ne]

/-- A lane that raises status stands in its class's queue from then on, once. -/
theorem raiseStatus_attentionLaw (l : LaneId) (ks : Kinds) (r : Reasons) {s : State} (law : AttentionLaw s) :
    AttentionLaw (raiseStatus l ks r s) := by
  by_cases pending : (s.lane l).statusPending
  · constructor
    · intro m c
      rw [raiseStatus_queues, if_pos pending, law.member m c]
      by_cases hm : m = l
      · subst hm; simp [Lane.raised, pending]
      · rw [raiseStatus_lane_ne hm]
    · intro c; rw [raiseStatus_queues, if_pos pending]; exact law.once c
  · have out : ∀ c, l ∉ s.port.queues.get c := fun c => mt (law.member l c).mp (by simp [pending])
    constructor
    · intro m c
      rw [raiseStatus_queues, if_neg pending, Four.get_modify]
      by_cases hm : m = l
      · subst hm
        rw [raiseStatus_lane_same]
        split
        · next hc => simp [hc, Lane.raised]
        · next hc => simp [Lane.raised, out, Ne.symm hc]
      · rw [raiseStatus_lane_ne hm, ← law.member m c]
        split <;> simp [*]
    · intro c
      rw [raiseStatus_queues, if_neg pending, Four.get_modify]
      split
      · exact List.nodup_append.mpr ⟨law.once _, by simp, fun a ha b hb => by
          rw [List.mem_singleton.mp hb]; rintro rfl; exact out _ ha⟩
      · exact law.once c

theorem raiseStatus_keeps (l : LaneId) (ks : Kinds) (r : Reasons) (s : State) : k.Keeps s (raiseStatus l ks r s) :=
  .of_steady
    { attention := raiseStatus_attentionLaw l ks r
      lanes := fun m => by
        by_cases hm : m = l
        · subst hm; rw [raiseStatus_lane_same]; exact {}
        · rw [raiseStatus_lane_ne hm]; exact .refl _ _ }


/-! ## Addresses -/

/-- As far as the law of the addresses goes, lane `l` has an aligned address. -/
def Law.AddressAt (k : Law) (s : State) (l : LaneId) : Prop := k = .alignment → (s.lane l).programAddr.toNat % 32 = 0

theorem Law.AddressAt.of_addressed {s : State} {l : LaneId} (law : k.Holds s) (h : (s.lane l).addressed) : k.AddressAt s l := by
  rintro rfl; exact law.address l h

theorem Law.AddressAt.of_programAddr {s t : State} {l : LaneId} (at_ : k.AddressAt s l)
    (same : (t.lane l).programAddr = (s.lane l).programAddr) : k.AddressAt t l := fun e => by rw [same]; exact at_ e

/-- A lane in a stage of a program, or at its end, has an address. -/
theorem Lane.addressed_of_stage {x : Lane} (rest : x.stage ≠ .rest) (block : x.stage ≠ .blockRead) : x.addressed :=
  .inr (.inr (.inr ⟨rest, block⟩))

/-- A lane that has an address at rest had one before, if its state has not become one of a program under way. -/
theorem Lane.addressed_of_course {x y : Lane} (stage : y.stage = .rest ∨ y.stage = x.stage)
    (state : y.state = x.state ∨ y.state = .idle ∨ y.state = .draining) (had : y.addressed) : x.addressed := by
  have same {c : LaneState} (h : y.state = c) (idle : c ≠ .idle) (draining : c ≠ .draining) : x.state = c := by
    rcases state with e | e | e
    · exact e.symm.trans h
    · exact absurd (h.symm.trans e) idle
    · exact absurd (h.symm.trans e) draining
  rcases had with running | suspended | held | ⟨rest, block⟩
  · exact .inl (same running (by decide) (by decide))
  · exact .inr (.inl (same suspended (by decide) (by decide)))
  · exact .inr (.inr (.inl (same held (by decide) (by decide))))
  · rcases stage with e | e
    · exact absurd e rest
    · exact addressed_of_stage (e ▸ rest) (e ▸ block)

/-- A lane whose address is aligned may move to any stage but an EXPOSE's wait. -/
theorem LaneMove.of_address {x y : Lane} (at_ : k = .alignment → x.programAddr.toNat % 32 = 0)
    (waits : ∀ w, y.stage ≠ .exposeWait w := by simp)
    (addr : x.programAddr.toNat % 32 = 0 → y.programAddr.toNat % 32 = 0 := by exact id)
    (jump : ∀ t, y.stage = .doneWrite (.jump t) → t.toNat % 32 = 0 := by simp)
    (cls : y.cls = x.cls := by rfl) (status : y.statusPending = x.statusPending := by rfl) : LaneMove k x y where
  waits _ h := by cases e : y.stage <;> simp_all [Stage.waitsForHead]
  aligned e _ := ⟨fun _ => addr (at_ e), jump⟩
  cls := cls
  status := status

/-- A lane may leave its place for one without an address. -/
theorem LaneMove.of_rest {x y : Lane} (none : ¬ y.addressed := by simp [Lane.addressed])
    (stage : y.stage = .rest ∨ y.stage = .blockRead := by simp)
    (cls : y.cls = x.cls := by rfl) (status : y.statusPending = x.statusPending := by rfl) : LaneMove k x y where
  waits _ h := by rcases stage with e | e <;> simp [e, Stage.waitsForHead] at h
  aligned _ _ := ⟨fun a => absurd a none, fun t h => by rcases stage with e | e <;> simp [e] at h⟩
  cls := cls
  status := status

/-- A lane that had an address may be where it was, or come to rest. -/
theorem LaneMove.of_addressed {x y : Lane} (addr : y.programAddr = x.programAddr := by rfl)
    (had : y.addressed → x.addressed := by simp [Lane.addressed])
    (stage : y.stage = .rest ∨ y.stage = x.stage := by simp)
    (cls : y.cls = x.cls := by rfl) (status : y.statusPending = x.statusPending := by rfl) : LaneMove k x y where
  waits _ h := by rcases stage with e | e <;> simp_all [Stage.waitsForHead]
  aligned _ := .of_addressed addr had fun t h => by rcases stage with e | e <;> simp_all
  cls := cls
  status := status

/-! ## The map and the trigger -/

/-- Tables of the same rows and no more sinks and markers obey the law of the map. -/
theorem MapLaw.of_fewer {m n : WallMap} (law : MapLaw m) (sinks : n.sinks.length ≤ m.sinks.length := by simp)
    (markers : n.markers.length ≤ m.markers.length := by simp) (rows : n.rows = m.rows := by simp) : MapLaw n where
  sinks := Nat.le_trans sinks law.sinks
  markers := Nat.le_trans markers law.markers
  slots := rows ▸ law.slots
  place := rows ▸ law.place

theorem emptyRows_getD (i : Nat) : emptyRows.getD i none = none := by
  simp only [emptyRows, List.getD_eq_getElem?_getD, List.getElem?_replicate]; split <;> rfl

/-- Tables with every row slot EMPTY obey the law of the map. -/
theorem MapLaw.of_emptyRows {m n : WallMap} (law : MapLaw m) (rows : n.rows = emptyRows := by rfl)
    (sinks : n.sinks.length ≤ m.sinks.length := by simp)
    (markers : n.markers.length ≤ m.markers.length := by simp) : MapLaw n where
  sinks := Nat.le_trans sinks law.sinks
  markers := Nat.le_trans markers law.markers
  slots := by rw [rows]; exact List.length_replicate
  place i rr h := by rw [rows, emptyRows_getD] at h; cases h

theorem WallMap.unbound_mapLaw (m : WallMap) : MapLaw m.unbound where
  sinks := by simp [WallMap.unbound]
  markers := by simp [WallMap.unbound]
  slots := List.length_replicate
  place i rr h := by rw [show m.unbound.rows = emptyRows from rfl, emptyRows_getD] at h; cases h

/-- The map changes while no survey is being taken, or without a change of the survey that is (R130). -/
theorem map_keeps {s : State} {m : WallMap} (law : MapLaw s.map → MapLaw m)
    (survey : s.map.ending = .none → s.map.phase = .surveying →
      m.lane = s.map.lane ∧ m.ending = s.map.ending ∧ m.phase = s.map.phase := by simp) :
    k.Keeps s { s with map := m } :=
  .of_steady { map := law, trigger := fun _ _ _ => TriggerHeld.of_same rfl survey }

/-- A disarmed trigger obeys its laws, whatever becomes of the map. -/
theorem TriggerHeld.of_disarmed {mark : Option Int} {pitch : Nat} {s : State} (armed : s.trigger.armed = none)
    (hw : s.trigger.hw = none) (pending : s.trigger.pending = false) : TriggerHeld mark pitch s :=
  ⟨{ armed := fun l h => (by simp [armed] at h), disarmed := fun _ => ⟨hw, pending⟩ }, fun _ _ => .inl armed⟩

theorem disarmTrigger_disarmed {l : LaneId} {s : State} (bound : s.map.lane = some l) (law : TriggerLaw s) :
    (disarmTrigger l s).trigger.armed = none ∧ (disarmTrigger l s).trigger.hw = none
      ∧ (disarmTrigger l s).trigger.pending = false := by
  unfold disarmTrigger
  split
  · exact ⟨rfl, rfl, rfl⟩
  · next other =>
    have off : s.trigger.armed = none := by
      cases e : s.trigger.armed with
      | none => rfl
      | some n => exact absurd (e.trans ((law.armed n e).1.symm.trans bound)) other
    exact ⟨off, law.disarmed off⟩

theorem disarmTrigger_keeps (l : LaneId) (s : State) : k.Keeps s (disarmTrigger l s) := by
  unfold disarmTrigger
  split
  · exact .of_steady { trigger := fun _ _ _ _ => .of_disarmed rfl rfl rfl }
  · exact .refl _ _

/-- The lane of the open survey ends it: the trigger, armed for no other, is disarmed, and the map goes on without it. -/
theorem disarmTrigger_map_keeps {l : LaneId} {s : State} {m : WallMap} (bound : s.map.lane = some l)
    (law : MapLaw s.map → MapLaw m) : k.Keeps s { disarmTrigger l s with map := m } :=
  .of_steady
    { map := law
      trigger := fun _ _ _ held => by
        obtain ⟨armed, hw, pending⟩ := disarmTrigger_disarmed bound held.law
        exact .of_disarmed armed hw pending }

/-! ## The course of a program (chapter 2) -/

theorem LaneMove.programEnded {x : Lane} {st : LaneState} (st_ : st = .draining ∨ st = .idle) (c : Completion) (check : CheckCode) :
    LaneMove k x (x.programEnded st c check) :=
  .of_rest (none := by rcases st_ with rfl | rfl <;> simp [Lane.addressed, Lane.programEnded]) (stage := .inl rfl)

theorem endProgram_keeps (l : LaneId) (c : Completion) (check : Option CheckCode) (s : State) :
    k.Keeps s (endProgram l c check s) := by
  unfold endProgram
  split
  · next bound =>
    refine .after (raiseStatus_keeps ..) (.after (disarmTrigger_map_keeps ?_ fun law => law.of_fewer) ?_)
    · simpa [State.surveyOpen] using bound
    · exact State.setLane_keeps (.programEnded (.inl rfl) ..)
  · exact .after (raiseStatus_keeps ..) (State.setLane_keeps (.programEnded (.inr rfl) ..))

theorem windDown_keeps (l : LaneId) (s : State) : k.Keeps s (windDown l s) := by
  unfold windDown
  split
  · next h => exact .after (raiseStatus_keeps ..) (State.setLane_keeps (.of_addressed (had := by simp [Lane.addressed, h])))
  · exact .refl _ _

theorem boundary_keeps {l : LaneId} {s : State} (at_ : k.AddressAt s l) : k.Keeps s (boundary l s) := by
  unfold boundary
  split
  · exact endProgram_keeps ..
  split
  · exact State.setLane_keeps (.of_address at_)
  · exact State.setLane_keeps (.of_address at_)

theorem advance_keeps {l : LaneId} {s : State} (at_ : k.AddressAt s l) : k.Keeps s (advance l s) := by
  have next : ∀ a : Word, a.toNat % 32 = 0 → (a + 32).toNat % 32 = 0 := fun a h => by
    rw [BitVec.toNat_add]; change (a.toNat + 32) % 4294967296 % 32 = 0; omega
  exact .after (boundary_keeps fun e => by simpa using next _ (at_ e))
    (State.setLane_keeps { aligned := fun e law => ⟨fun _ => next _ (at_ e), law.2⟩ })

theorem endStep_keeps {l : LaneId} {after : After} {s : State} (at_ : k.AddressAt s l) (w : StepWord) (code : DoneCode)
    (results : List Byte) (jump : ∀ t, after = .jump t → t.toNat % 32 = 0 := by simp) :
    k.Keeps s (endStep l w code results after s) :=
  .after (issueDone_keeps ..) (State.setLane_keeps (.of_address at_ (jump := by simpa using jump)))

theorem checkStep_keeps {l : LaneId} {s : State} (at_ : k.AddressAt s l) (w : StepWord) (c : CheckCode) :
    k.Keeps s (checkStep l w c s) := endStep_keeps at_ ..

theorem afterDoneWord_keeps {l : LaneId} {after : After} {s : State} (stage : (s.lane l).stage = .doneWrite after) :
    k.Keeps s (afterDoneWord l after s) := .of_law fun law => by
  have at_ : k.AddressAt s l := .of_addressed law (Lane.addressed_of_stage (by simp [stage]) (by simp [stage]))
  unfold afterDoneWord
  split
  · exact .after (windDown_keeps ..) (State.setLane_keeps (.of_address at_))
  · split
    · exact advance_keeps at_
    · exact advance_keeps at_
    · exact advance_keeps at_
    · next target =>
      have aligned : k = .alignment → target.toNat % 32 = 0 := by rintro rfl; exact law.target l target stage
      exact .after (boundary_keeps fun e => by simpa using aligned e)
        (State.setLane_keeps { aligned := fun e h => ⟨fun _ => aligned e, h.2⟩ })
    · exact endProgram_keeps ..
    · exact endProgram_keeps ..

theorem raiseAlert_keeps (l : LaneId) (s : State) : k.Keeps s (raiseAlert l s) := raiseStatus_keeps ..

theorem raiseIntermediate_keeps (l : LaneId) (r : Reasons) (s : State) : k.Keeps s (raiseIntermediate l r s) :=
  raiseStatus_keeps ..

theorem alertAfterDoneWord_keeps (l : LaneId) (after : After) (s : State) : k.Keeps s (alertAfterDoneWord l after s) := by
  unfold alertAfterDoneWord
  split
  · exact raiseAlert_keeps ..
  · exact .after (raiseAlert_keeps ..) (State.setLane_keeps {})
  · exact .refl _ _

/-- The trigger's pending flag changes; it is set only when the trigger is armed (R58). -/
theorem triggerPending_keeps {s : State} {b : Bool} (armed : s.trigger.armed = none → b = false) :
    k.Keeps s { s with trigger.pending := b } :=
  .of_steady { trigger := fun _ _ _ held =>
    ⟨⟨held.law.armed, fun off => ⟨(held.law.disarmed off).1, armed off⟩⟩, held.since⟩ }

theorem withholdHeld_keeps (l : LaneId) (s : State) : k.Keeps s (withholdHeld l s) :=
  .after (State.bump_keeps ..) (triggerPending_keeps fun _ => rfl)

theorem withholdSupply_keeps (l : LaneId) (s : State) : k.Keeps s (withholdSupply l s) :=
  .after (State.bump_keeps ..) (triggerPending_keeps fun _ => rfl)

theorem withholdAtHold_keeps (l : LaneId) (s : State) : k.Keeps s (withholdAtHold l s) := by
  unfold withholdAtHold
  split
  · exact withholdHeld_keeps l s
  · exact .refl _ _

/-! ## Holds and the examination of a step -/

theorem Lane.grantPast_waits (x : Lane) : x.grantPast.stage.waitsForHead = x.stage.waitsForHead := by
  unfold Lane.grantPast
  by_cases h : x.stage = .leftHold <;> simp [h, Stage.waitsForHead]

theorem Lane.grantPast_stage_doneWrite {x : Lane} {after : After} (h : x.grantPast.stage = .doneWrite after) :
    x.stage = .doneWrite after := by
  unfold Lane.grantPast at h
  by_cases e : x.stage = .leftHold <;> simp_all

theorem reachHold_keeps {l : LaneId} {s : State} (at_ : k.AddressAt s l) (pos : HoldPosition) :
    k.Keeps s (reachHold l pos s) :=
  .after (raiseIntermediate_keeps ..) (.after (withholdAtHold_keeps ..) (State.setLane_keeps
    { waits := by simp [Lane.grantPast_waits]
      aligned := fun e law => ⟨fun _ => by simpa using at_ e, fun t h => law.2 t (Lane.grantPast_stage_doneWrite h)⟩
      cls := by simp
      status := by simp }))

theorem suspendLane_keeps {l : LaneId} {s : State} (at_ : k.AddressAt s l) : k.Keeps s (suspendLane l s) := by
  unfold suspendLane
  split
  · exact endProgram_keeps ..
  dsimp only
  split
  · exact State.setLane_keeps (.of_address at_)
  · exact .after (raiseIntermediate_keeps ..) (State.setLane_keeps (.of_address at_))

theorem offerStep_keeps {l : LaneId} {s : State} (at_ : k.AddressAt s l) (w : StepWord) : k.Keeps s (offerStep l w s) := by
  unfold offerStep
  split
  · exact State.setLane_keeps (.of_address at_)
  · exact checkStep_keeps at_ ..

theorem examineSuspend_keeps {l : LaneId} {s : State} (at_ : k.AddressAt s l) (w : StepWord) :
    k.Keeps s (examineSuspend l w s) := by
  unfold examineSuspend
  split
  · exact offerStep_keeps at_ w
  split
  · exact checkStep_keeps at_ ..
  split
  · exact State.setLane_keeps (.of_address at_)
  · exact suspendLane_keeps at_

theorem tagHold_keeps {l : LaneId} {s : State} (at_ : k.AddressAt s l) (w : StepWord) : k.Keeps s (tagHold l w s) := by
  unfold tagHold
  split
  · exact endProgram_keeps ..
  dsimp only
  split
  · exact State.setLane_keeps (.of_address at_)
  · exact .after (reachHold_keeps (at_.of_programAddr (by simp)) _) (State.setLane_keeps (.of_address at_))

theorem examineStep_keeps {l : LaneId} {s : State} (at_ : k.AddressAt s l) (w : StepWord) :
    k.Keeps s (examineStep l w s) := by
  unfold examineStep
  split
  · exact examineSuspend_keeps at_ w
  split
  · exact checkStep_keeps at_ ..
  split
  · exact examineSuspend_keeps at_ w
  · exact tagHold_keeps at_ w

end Sys2Proof.Machine

/-! SUPPORT. Every law kept: strobe starts, head arbitration, the trigger's evaluation and the supply monitor. -/

namespace Sys2Proof.Machine

set_option Elab.async false

variable {k : Law}

/-! ## The exposure controller (chapter 4) -/

/-- What a strobe start does when slot `i` is allocated (R53, R57, R76, R77). -/
theorem strobeStart_of_allocate {s : State} {i : Nat} (h : allocate s = some i) (kind : FrameKind) (l : LaneId) (lReq tReq : Nat) :
    strobeStart kind l lReq tReq s =
      let r := newRecord s kind l lReq tReq
      { s with
        slots := updateAt (fun _ => { Slot.empty with state := .filling, record := some r }) i s.slots
        exposure := { s.exposure with seq := r.seq, inFlight := some i, strobe := true, led := r.lUsed }
        intake := { s.intake with phase := .integrating, damaged := false, completion := .none }
        odo.slipFlag := false
        mem := s.mem.write (slotAddr s.intake i) (headerBytes r) } := by
  simp only [strobeStart, h]; rfl

theorem strobeStart_of_none {s : State} (h : allocate s = none) (kind : FrameKind) (l : LaneId) (lReq tReq : Nat) :
    strobeStart kind l lReq tReq s = s := by
  simp only [strobeStart, h]

/-- The table after a strobe start is the one its law asks for, if the claims have room. -/
theorem strobeStart_slotLaw {s : State} (free : s.headFree = true) (kind : FrameKind) (l : LaneId) (lReq tReq : Nat) {t : State}
    (slots : t.slots = (strobeStart kind l lReq tReq s).slots)
    (inFlight : t.exposure.inFlight = (strobeStart kind l lReq tReq s).exposure.inFlight) (requests : t.requests = s.requests)
    (room : keptClaims t + 2 ≤ t.intake.slotCount) (law : SlotLaw s) : SlotLaw t := by
  cases h : allocate s with
  | none =>
    rw [strobeStart_of_none h] at slots inFlight
    exact SlotsMoved.slotLaw ⟨fun i => by simpa [State.slot, slots] using (SlotMove.refl _).toSlotShift, inFlight, by simp [requests]⟩
      (fun _ => room) law
  | some i =>
    have entry (j : Nat) : t.slot j = if j = i then { Slot.empty with state := .filling, record := some (newRecord s kind l lReq tReq) }
        else s.slot j := by
      have same : t.slot j = (s.setSlot i fun _ => { Slot.empty with
          state := .filling, record := some (newRecord s kind l lReq tReq) }).slot j := by
        simp [State.slot, slots, strobeStart_of_allocate h]
      rw [same, State.slot_setSlot]
      by_cases hj : j = i
      · subst hj; simp [(allocate_open h).1]
      · simp [hj]
    have none_ : s.exposure.inFlight = none := by simpa [State.headFree] using free
    have some_ : t.exposure.inFlight = some i := by simp [inFlight, strobeStart_of_allocate h]
    constructor
    · intro j
      rw [entry, some_]
      by_cases hj : j = i
      · simp [hj]
      · simpa [hj, none_, show i ≠ j from fun h => hj h.symm] using law.filling j
    · intro j
      rw [entry]
      by_cases hj : j = i
      · simp [hj]
      · simpa [hj] using law.recorded j
    · intro j
      rw [entry]
      by_cases hj : j = i
      · simp [hj, Slot.empty]
      · simpa [hj] using law.bound j
    · intro m j asked
      obtain ⟨ready, frame⟩ := law.requested m j (by simpa [requests] using asked)
      have ne : j ≠ i := by rintro rfl; rcases (allocate_open h).2 with e | e <;> simp [e] at ready
      rw [entry, if_neg ne]; exact ⟨ready, frame⟩
    · exact room

theorem strobeStart_claims (kind : FrameKind) (l : LaneId) (lReq tReq : Nat) (s : State) :
    (strobeStart kind l lReq tReq s).slots.countP Slot.claimed
      ≤ s.slots.countP Slot.claimed + (if kind = .patch then 1 else 0) := by
  cases h : allocate s with
  | none => simp [strobeStart_of_none h]
  | some i =>
    simp only [strobeStart_of_allocate h]
    cases kind with
    | patch => exact countP_updateAt_le_succ ..
    | survey => exact countP_updateAt_le fun x _ claimed => by simp [Slot.claimed, Slot.holds, newRecord, Slot.empty] at claimed

theorem strobeStart_mem_wf (kind : FrameKind) (l : LaneId) (lReq tReq : Nat) {s : State} (law : MemoryLaw s) :
    MemoryLaw (strobeStart kind l lReq tReq s) := by
  cases h : allocate s with
  | none => rwa [strobeStart_of_none h]
  | some i => rw [strobeStart_of_allocate h]; exact Memory.wf_write law ..

theorem OdometerLaw.of_same {o q : Odometer} (law : OdometerLaw o) (p : q.p = o.p := by simp) (w1 : q.w1 = o.w1 := by simp)
    (w2 : q.w2 = o.w2 := by simp) (m1 : q.mode1 = o.mode1 := by simp) (m2 : q.mode2 = o.mode2 := by simp)
    (limit : q.slipLimit = o.slipLimit := by simp) : OdometerLaw q where
  follows := by rw [p, w1, w2]; exact law.follows
  first := by rw [p, w1, m1, m2]; exact law.first
  second := by rw [p, w2, m1, m2]; exact law.second
  slip := by rw [w1, w2, m1, m2, limit]; exact law.slip
  fits := by rw [p, w1, w2]; exact law.fits

@[simp] theorem strobeStart_slipLimit (kind : FrameKind) (l : LaneId) (lReq tReq : Nat) (s : State) :
    (strobeStart kind l lReq tReq s).odo.slipLimit = s.odo.slipLimit := by
  unfold strobeStart; split <;> simp

theorem strobeStart_survey_keeps {s : State} (free : s.headFree = true) (l : LaneId) (lReq tReq : Nat) :
    k.Keeps s (strobeStart .survey l lReq tReq s) :=
  .of_steady
    { mem := .inr fun law => strobeStart_mem_wf _ _ _ _ law
      odo := fun law => law.of_same
      slots := fun _ waits law => strobeStart_slotLaw free .survey l lReq tReq rfl rfl (by simp)
        (SlotLaw.room_of_le (by simpa using strobeStart_claims .survey l lReq tReq s) waits (by simp) law) law }

/-- The survey trigger, due, fires: its high-water mark is the present p (R53, R59). -/
theorem fireSurvey_keeps {s : State} (free : s.headFree = true) (due : triggerDue s = true) (l : LaneId) :
    k.Keeps s (fireSurvey l s) := by
  unfold fireSurvey
  refine .after (t := strobeStart .survey l s.trigger.lReq s.trigger.tReq s) (.of_steady ?_) (strobeStart_survey_keeps free ..)
  refine { trigger := fun mark pitch _ held => ⟨⟨?_, ?_⟩, ?_⟩ }
  · exact held.law.armed
  · intro off
    simp [triggerDue, show s.trigger.armed = none by simpa using off] at due
  · intro h marked
    rcases held.since h marked with off | ⟨same, q, hw, near⟩
    · exact .inl off
    · simp only [strobeStart_frame] at same hw
      have reached : q + s.trigger.pitch ≤ s.odo.p := by simpa [triggerDue, hw] using (Bool.and_eq_true_iff.mp due).2
      refine .inr ⟨by simpa using same, s.odo.p, rfl, ?_⟩
      omega

theorem countP_allLanes_lt {p q : LaneId → Bool} (le : ∀ m, q m = true → p m = true) {l : LaneId} (hp : p l = true)
    (hq : q l = false) : allLanes.countP q < allLanes.countP p := by
  have split : allLanes.countP p = (allLanes.filter q).countP p + (allLanes.filter fun m => !q m).countP p := by
    simpa using List.countP_eq_countP_filter_add allLanes p q
  have kept : (allLanes.filter q).countP p = allLanes.countP q := by
    rw [List.countP_eq_length_filter (l := allLanes), List.countP_eq_length]
    exact fun m hm => le m (List.mem_filter.mp hm).2
  have more : 0 < (allLanes.filter fun m => !q m).countP p :=
    List.countP_pos_iff.mpr ⟨l, List.mem_filter.mpr ⟨mem_allLanes l, by simp [hq]⟩, hp⟩
  omega

/-- A waiting EXPOSE has its strobe start: its claim passes from the lane to the slot (R62, R82). -/
theorem fireExpose_keeps {s : State} (free : s.headFree = true) (l : LaneId) : k.Keeps s (fireExpose l s) := .of_law fun law => by
  unfold fireExpose
  split
  · next w stage =>
    have at_ : k.AddressAt s l := .of_addressed law (Lane.addressed_of_stage (by simp [stage]) (by simp [stage]))
    have lanes (m : LaneId) (q : Lane → Lane → Prop) (here : q (s.lane l) { s.lane l with stage := .exposeFlight w })
        (others : ∀ x, q x x) : q (s.lane m) (((strobeStart .patch l (w.operand 17 1) (w.operand 18 2) s).setLane l
          fun x => { x with stage := .exposeFlight w }).lane m) := by
      rw [State.lane_setLane]
      simp only [State.lane, strobeStart_frame] at here ⊢
      split
      · next h => subst h; exact here
      · exact others _
    refine .of_steady
      { mem := .inr fun law => strobeStart_mem_wf (s := s) _ _ _ _ law
        odo := fun law => law.of_same
        attention := AttentionLaw.of_same (by simp) fun m => lanes m (fun x y => y.statusPending = x.statusPending ∧ y.cls = x.cls)
          ⟨rfl, rfl⟩ fun _ => ⟨rfl, rfl⟩
        lanes := fun m => lanes m (LaneShift k) (LaneMove.of_address at_).toLaneShift (.refl k)
        slots := fun _ waits law => strobeStart_slotLaw free .patch l (w.operand 17 1) (w.operand 18 2) (by simp) (by simp) (by simp) ?_ law }
    have room := law.claims
    have slots := strobeStart_claims .patch l (w.operand 17 1) (w.operand 18 2) s
    have waiters := countP_allLanes_lt waits (l := l) (by simp [exposeWaiting_eq, stage])
      (by rw [exposeWaiting_eq, State.lane_setLane_same]; rfl)
    simp only [keptClaims_eq, State.setLane_frame, strobeStart_frame, if_true] at room slots ⊢
    omega
  · exact .refl _ _

theorem serveWaiters_keeps (ws : List Waiter) {s : State} (free : s.headFree = true) : k.Keeps s (serveWaiters ws s) := by
  induction ws generalizing s with
  | nil => exact .refl _ _
  | cons x xs ih =>
    cases x with
    | survey l =>
      unfold serveWaiters
      split
      · exact .after (ih free) (triggerPending_keeps fun _ => rfl)
      split
      · exact .after (ih free) (withholdHeld_keeps l s)
      · next due _ => exact fireSurvey_keeps free (by simpa using due) l
    | expose l => exact fireExpose_keeps free l

theorem headArbitrate_keeps (s : State) : k.Keeps s (headArbitrate s) := by
  unfold headArbitrate
  split
  · next h => exact serveWaiters_keeps _ (by simp [headGrantable] at h; exact h.1.1)
  · exact .refl _ _

theorem evalTrigger_keeps (s : State) : k.Keeps s (evalTrigger s) := by
  unfold evalTrigger
  split
  · exact .refl _ _
  next l armed =>
    split
    · exact .refl _ _
    next due =>
    split
    · exact withholdHeld_keeps l s
    split
    · exact withholdSupply_keeps l s
    split
    · exact State.bump_keeps ..
    split
    · next h => exact fireSurvey_keeps h.1 (by simpa using due) l
    · exact .after (headArbitrate_keeps _) (triggerPending_keeps (by simp [armed]))

theorem evalTriggerFor_keeps (l : LaneId) (s : State) : k.Keeps s (evalTriggerFor l s) := by
  unfold evalTriggerFor
  split
  · exact evalTrigger_keeps s
  · exact .refl _ _

/-! ## The supply monitor -/

theorem Supply.oneGood_supplyLaw {m : Supply} {up : SupplyState} (below : m.state ≠ .normal) :
    SupplyLaw (m.oneGood up) := by
  unfold Supply.oneGood
  split
  · exact ⟨by simp, by simp⟩
  · exact ⟨by simp; omega, fun normal => absurd normal below⟩

theorem Supply.settle_supplyLaw (m : Supply) (st : SupplyState) : SupplyLaw (m.settle st) := ⟨by simp [Supply.settle], fun _ => rfl⟩

theorem Supply.sample_supplyLaw (m : Supply) (b : Band) : SupplyLaw (m.sample b) := by
  cases hs : m.state with
  | normal => cases b <;> simp only [Supply.sample, hs, Supply.settle_supplyLaw]
  | derate => cases b <;> simp only [Supply.sample, hs, Supply.settle_supplyLaw, Supply.oneGood_supplyLaw (m := m) (by simp [hs])]
  | cutoff => cases b <;> simp only [Supply.sample, hs, Supply.settle_supplyLaw, Supply.oneGood_supplyLaw (m := m) (by simp [hs])]

/-- A step that waits somewhere has an address. -/
theorem Law.AddressAt.of_stage {s : State} {l : LaneId} (law : k.Holds s) {g : Stage} (stage : (s.lane l).stage = g)
    (rest : g ≠ .rest := by simp) (block : g ≠ .blockRead := by simp) : k.AddressAt s l :=
  .of_addressed law (Lane.addressed_of_stage (stage ▸ rest) (stage ▸ block))

theorem cutoffExpose_keeps (l : LaneId) (s : State) : k.Keeps s (cutoffExpose l s) := .of_law fun law => by
  unfold cutoffExpose
  split
  · next stage => exact endStep_keeps (.of_stage law stage) ..
  · exact .refl _ _

theorem cutoffTrigger_keeps (s : State) : k.Keeps s (cutoffTrigger s) := by
  unfold cutoffTrigger
  split
  · split
    · exact withholdSupply_keeps ..
    · exact .refl _ _
  · exact .refl _ _

theorem cutoffAlert_keeps (s : State) : k.Keeps s (cutoffAlert s) := by
  unfold cutoffAlert
  split
  · exact .after (raiseAlert_keeps ..) (State.setLane_keeps {})
  · exact .refl _ _

theorem enterCutoff_keeps (s : State) : k.Keeps s (enterCutoff s) :=
  .after (cutoffAlert_keeps _) <| .after (cutoffTrigger_keeps _) <| .after (cutoffExpose_keeps 3 _) <|
    .after (cutoffExpose_keeps 2 _) <| .after (cutoffExpose_keeps 1 _) (cutoffExpose_keeps 0 s)

theorem takeSample_keeps (mv : Nat) (s : State) : k.Keeps s (takeSample mv s) := by
  have sampled : k.Keeps s { s with supply := s.supply.sample (bandOf s.supply mv) } :=
    .of_steady { supply := fun _ => Supply.sample_supplyLaw _ _ }
  unfold takeSample
  dsimp only
  split
  · exact .after (enterCutoff_keeps _) sampled
  split
  · exact .after (headArbitrate_keeps _) sampled
  · exact sampled

end Sys2Proof.Machine

/-! SUPPORT. Every law kept: the wall map and the steps of a survey. -/

namespace Sys2Proof.Machine

set_option Elab.async false

variable {k : Law}

/-! ## The wall map (chapter 9) -/

theorem rowSlot_lt (n : Int) : rowSlot n < 512 := by
  have := Int.emod_nonneg n (by decide : (512 : Int) ≠ 0)
  have := Int.emod_lt_of_pos n (by decide : (0 : Int) < 512)
  unfold rowSlot
  change (n % 512).toNat < 512
  omega

theorem getD_set_none {α : Type} (xs : List (Option α)) (i j : Nat) (x : Option α) :
    (xs.set i x).getD j none = if j = i ∧ i < xs.length then x else xs.getD j none := by
  simp only [List.getD_eq_getElem?_getD, List.getElem?_set]
  by_cases h : i = j
  · subst h; by_cases lt : i < xs.length <;> simp [lt]
  · rw [if_neg h, if_neg fun e => h e.1.symm]

theorem WallMap.takeRow_mapLaw {m : WallMap} (law : MapLaw m) (rr : RowRecord) : MapLaw (m.takeRow rr) where
  sinks := law.sinks
  markers := law.markers
  slots := by simpa [WallMap.takeRow] using law.slots
  place i r h := by
    simp only [WallMap.takeRow, getD_set_none] at h
    split at h
    · next e => rw [← Option.some.inj h]; exact e.1.symm
    · exact law.place i r h

theorem takeCandidate_keeps (rr : RowRecord) (codes : List Byte) (s : State) : k.Keeps s (takeCandidate rr codes s) := by
  unfold takeCandidate
  split
  · exact .after (t := s.store _ codes) (map_keeps (fun law => WallMap.takeRow_mapLaw law rr) fun _ _ => ⟨rfl, rfl, rfl⟩)
      (State.store_keeps ..)
  · exact .refl _ _

theorem joinSink_keeps {l : LaneId} {s : State} (at_ : k.AddressAt s l) (room : s.map.sinks.length < Config.sinkLimit) (w : StepWord) :
    k.Keeps s (joinSink l w s) :=
  .after (advance_keeps at_) (map_keeps fun law => { law with sinks := Nat.le_trans (Nat.le_of_eq List.length_append) room })

theorem closeSink_keeps (l : LaneId) (sink : Sink) (code : DoneCode) (reason : Nat) (role : DoneRole) (s : State) :
    k.Keeps s (closeSink l sink code reason role s) := issueDone_keeps ..

theorem closeAbandoned_keeps (l : LaneId) (role : DoneRole) (sinks : List Sink) (s : State) :
    k.Keeps s (closeAbandoned l role sinks s) := by
  induction sinks generalizing s with
  | nil => exact .refl _ _
  | cons x xs ih => exact .after (ih _) (closeSink_keeps ..)

theorem closeLeft_keeps (l : LaneId) (sinks : List Sink) (s : State) : k.Keeps s (closeLeft l sinks s) := by
  induction sinks generalizing s with
  | nil => exact .refl _ _
  | cons x xs ih => exact .after (ih _) (closeSink_keeps ..)

theorem waitingSinkJoins_keeps (s : State) : k.Keeps s (waitingSinkJoins s) := .of_law fun law => by
  unfold waitingSinkJoins
  split
  · exact .refl _ _
  split
  · next stage =>
    split
    · next room => exact joinSink_keeps (.of_stage law stage) room _
    · exact .refl _ _
  · exact .refl _ _

theorem closeFull_keeps (l : LaneId) (s : State) : k.Keeps s (closeFull l s) := by
  unfold closeFull
  split
  · exact .refl _ _
  · next sinks =>
    split
    · exact .after (waitingSinkJoins_keeps _) (.after (closeSink_keeps ..) (map_keeps fun law => law.of_fewer (by simp [sinks])))
    · exact .refl _ _

theorem joinMark_keeps {l : LaneId} {s : State} (at_ : k.AddressAt s l) (room : s.map.markers.length < Config.markerLimit)
    (w : StepWord) : k.Keeps s (joinMark l w s) := by
  unfold joinMark
  dsimp only
  refine .after (endStep_keeps ?_ ..) (map_keeps fun law => { law with markers := ?_ })
  · exact at_
  · simpa using Nat.succ_le_of_lt room

theorem waitingMarkJoins_keeps (s : State) : k.Keeps s (waitingMarkJoins s) := .of_law fun law => by
  unfold waitingMarkJoins
  split
  · exact .refl _ _
  split
  · next stage =>
    split
    · next room => exact joinMark_keeps (.of_stage law stage) room _
    · exact .refl _ _
  · exact .refl _ _

theorem placeMarker_keeps (n : Int) (s : State) : k.Keeps s (placeMarker n s) := by
  unfold placeMarker
  split
  · exact .refl _ _
  · exact .after (waitingMarkJoins_keeps _) (map_keeps fun law => law.of_fewer)

theorem issueCommit_keeps (sink : Sink) (n last : Int) (s : State) : k.Keeps s (issueCommit sink n last s) :=
  .after (map_keeps fun law => law.of_fewer) (placeMarker_keeps n s)

/-- Tables of which one row slot has become EMPTY obey the law of the map. -/
theorem MapLaw.of_emptied {m n : WallMap} (law : MapLaw m) {i : Nat} (rows : n.rows = m.rows.set i none := by simp)
    (sinks : n.sinks.length ≤ m.sinks.length := by simp) (markers : n.markers.length ≤ m.markers.length := by simp) : MapLaw n where
  sinks := Nat.le_trans sinks law.sinks
  markers := Nat.le_trans markers law.markers
  slots := by rw [rows, List.length_set]; exact law.slots
  place j rr h := by
    rw [rows, getD_set_none] at h
    split at h
    · cases h
    · exact law.place j rr h

theorem landCommit_keeps (l : LaneId) (c : Commit) (s : State) : k.Keeps s (landCommit l c s) :=
  .after (map_keeps fun law => law.of_emptied rfl) (.after (State.bump_keeps ..) (State.store_keeps ..))

theorem finishEnd_keeps (l : LaneId) (m : WallMap) (s : State) : k.Keeps s (finishEnd l m s) := .of_law fun law => by
  unfold finishEnd
  split
  · next stage =>
    split
    · exact endStep_keeps (.of_stage law stage) ..
    · exact endStep_keeps (.of_stage law stage) ..
  · exact .refl _ _

theorem finishDrain_keeps (l : LaneId) (starved : Bool) (s : State) : k.Keeps s (finishDrain l starved s) :=
  .after (raiseStatus_keeps ..) (State.setLane_keeps
    (.of_addressed (had := fun h => .inr (.inr (.inr (by simpa [Lane.addressed] using h))))))

theorem unbound_keeps {s : State} (closed : s.map.phase ≠ .surveying) : k.Keeps s { s with map := s.map.unbound } :=
  map_keeps (fun _ => s.map.unbound_mapLaw) fun _ open_ => absurd open_ closed

theorem endSurveyNow_keeps {s : State} (closed : s.map.phase ≠ .surveying) : k.Keeps s (endSurveyNow s) := by
  unfold endSurveyNow
  split
  · exact .refl _ _
  dsimp only
  split
  · exact .after (windDown_keeps ..) (unbound_keeps closed)
  split
  · exact .after (finishEnd_keeps ..) (unbound_keeps closed)
  · exact .after (finishDrain_keeps ..) (unbound_keeps closed)
  · exact unbound_keeps closed

theorem unbindWhenClosed_keeps (s : State) : k.Keeps s (unbindWhenClosed s) := by
  unfold unbindWhenClosed
  split
  · next h => exact endSurveyNow_keeps (by simp [h.1])
  · exact .refl _ _

theorem endDrain_keeps {s : State} (closed : s.map.phase ≠ .surveying) (l : LaneId) : k.Keeps s (endDrain l s) :=
  .after (unbindWhenClosed_keeps _) <| .after (closeLeft_keeps ..) <|
    .after (map_keeps (fun law => law.of_fewer) fun _ open_ => absurd (by simpa using open_) closed) (State.bump_keeps ..)

theorem starveDrain_keeps {s : State} (closed : s.map.phase ≠ .surveying) (l : LaneId) (n : Int) : k.Keeps s (starveDrain l n s) :=
  .after (endDrain_keeps (by simpa using closed) l) <| .after (map_keeps fun law => law.of_emptyRows) (State.bump_keeps ..)

theorem drainRow_keeps {s : State} (closed : s.map.phase ≠ .surveying) (l : LaneId) (n last : Int) :
    k.Keeps s (drainRow l n last s) := by
  unfold drainRow
  split
  · exact starveDrain_keeps closed ..
  · exact issueCommit_keeps ..

theorem forcedHold_keeps (l : LaneId) (n1 : Int) (s : State) : k.Keeps s (forcedHold l n1 s) := by
  unfold forcedHold
  dsimp only
  split
  · split
    · exact .after (State.setLane_keeps {}) (map_keeps fun law => law.of_fewer)
    · exact map_keeps fun law => law.of_fewer
  · exact .refl _ _

theorem endAdmission_keeps (l : LaneId) (s : State) : k.Keeps s (endAdmission l s) := by
  unfold endAdmission
  split
  · exact forcedHold_keeps ..
  · exact .refl _ _

theorem abandonForHalt_keeps (l : LaneId) (w : StepWord) (s : State) : k.Keeps s (abandonForHalt l w s) :=
  .after (endProgram_keeps ..) (issueDone_keeps ..)

theorem takeSink_keeps {l : LaneId} {s : State} (at_ : k.AddressAt s l) (w : StepWord) : k.Keeps s (takeSink l w s) := by
  unfold takeSink
  split
  · exact checkStep_keeps at_ ..
  split
  · exact checkStep_keeps at_ ..
  split
  · exact checkStep_keeps at_ ..
  split
  · next room => exact joinSink_keeps at_ room w
  split
  · exact abandonForHalt_keeps ..
  · exact State.setLane_keeps (.of_address at_)

theorem takeMark_keeps {l : LaneId} {s : State} (at_ : k.AddressAt s l) (w : StepWord) : k.Keeps s (takeMark l w s) := by
  unfold takeMark
  split
  · exact checkStep_keeps at_ ..
  split
  · next room => exact joinMark_keeps at_ room w
  split
  · exact abandonForHalt_keeps ..
  · exact State.setLane_keeps (.of_address at_)

theorem takeEnd_keeps {l : LaneId} {s : State} (at_ : k.AddressAt s l) (w : StepWord) : k.Keeps s (takeEnd l w s) := by
  unfold takeEnd
  split
  · exact checkStep_keeps at_ ..
  · next bound =>
    refine .after (disarmTrigger_map_keeps (by simpa [State.surveyOpen] using bound) fun law => law.of_fewer) ?_
    exact State.setLane_keeps (.of_address at_)

theorem fromLe_lt (bs : List Byte) : fromLe bs < 256 ^ bs.length := by
  induction bs with
  | nil => simp [fromLe]
  | cons b bs ih =>
    have := b.isLt
    simp only [fromLe, List.length_cons, Nat.pow_succ]
    omega

theorem field_lt (bs : List Byte) (at_ n : Nat) : field bs at_ n < 256 ^ n :=
  Nat.lt_of_lt_of_le (fromLe_lt _) (Nat.pow_le_pow_right (by decide) (List.length_take_le ..))

theorem StepWord.operand_lt (w : StepWord) (at_ n : Nat) : w.operand at_ n < 256 ^ n := field_lt ..

/-- What BEGIN's tests let through (R130). -/
theorem beginCheck_eq_none {s : State} {l : LaneId} {w : StepWord} (h : beginCheck s l w = none) :
    w.operand 16 2 ≠ 0 ∧ 20 ≤ w.operand 18 2 ∧ w.operand 18 2 ≤ 10000 ∧ w.operand 20 1 ≠ 0 ∧ w.operand 24 4 % 4096 = 0
      ∧ (s.lane l).context.complete = true ∧ s.map.lane = none := by
  unfold beginCheck at h
  by_cases pitch : w.operand 16 2 = 0
  · simp [pitch] at h
  by_cases time : w.operand 18 2 < 20 ∨ 10000 < w.operand 18 2
  · simp [pitch, time] at h
  by_cases level : w.operand 20 1 = 0
  · simp [pitch, time, level] at h
  by_cases staging : w.operand 24 4 % 4096 ≠ 0
  · simp [pitch, time, level, staging] at h
  by_cases complete : (s.lane l).context.complete
  · simp only [if_neg pitch, if_neg time, if_neg level, if_neg staging, complete] at h
    cases bound : s.map.lane with
    | none => exact ⟨pitch, by omega, by omega, level, by omega, complete, rfl⟩
    | some m => by_cases same : m = l <;> simp [bound, same] at h
  · simp [pitch, time, level, staging, complete] at h

/-- The law of the trigger, once armed by BEGIN, remembers no mark. -/
def Law.Unmarked (k : Law) : Prop := ∀ h pitch, k ≠ .trigger (some h) pitch

theorem openSurvey_keeps {l : LaneId} {w : StepWord} {s : State} (at_ : k.AddressAt s l) (unmarked : k.Unmarked)
    (passed : beginCheck s l w = none) : k.Keeps s (openSurvey l w s) := by
  obtain ⟨pitch, shortest, longest, level, -, -, -⟩ := beginCheck_eq_none passed
  have pitchFits := w.operand_lt 16 2
  have levelFits := w.operand_lt 20 1
  unfold openSurvey
  refine .after (evalTrigger_keeps _) (.after (t := endStep l w .done (zeros 12) .advance s) (.of_steady ?_) (endStep_keeps at_ ..))
  exact
    { map := fun _ => s.map.unbound_mapLaw.of_fewer (by simp [boundMap]) (by simp [boundMap]) rfl
      trigger := fun mark _ hk _ =>
        ⟨{ armed := fun m armed => by
              obtain rfl : l = m := by simpa using armed
              exact ⟨rfl, rfl, rfl, by simp; omega, by simp; omega, by simp; omega, by simp; omega, shortest, longest⟩
           disarmed := fun off => (by simp at off) },
          fun h hm => absurd (hm ▸ hk) (unmarked h _)⟩ }

theorem takeBegin_keeps {l : LaneId} {s : State} (at_ : k.AddressAt s l) (unmarked : s.map.lane = none → k.Unmarked)
    (w : StepWord) : k.Keeps s (takeBegin l w s) := by
  unfold takeBegin
  split
  · exact checkStep_keeps at_ ..
  · next passed => exact openSurvey_keeps at_ (unmarked (by obtain ⟨-, -, -, -, -, -, h⟩ := beginCheck_eq_none passed; exact h)) passed

theorem afterCommit_keeps (l : LaneId) (c : Commit) (s : State) : k.Keeps s (afterCommit l c s) := by
  unfold afterCommit
  split
  · split
    · next draining => exact drainRow_keeps (by simp [draining]) ..
    split
    · exact issueCommit_keeps ..
    · exact .refl _ _
  split
  · next draining => exact endDrain_keeps (by simp [draining]) l
  · exact endAdmission_keeps ..

theorem landLateCommit_keeps (q : LateCommit) (s : State) : k.Keeps s (landLateCommit q s) :=
  .after (closeAbandoned_keeps ..) (.after (State.bump_keeps ..) (State.store_keeps ..))

theorem dropLateCommit_keeps (l : LaneId) (s : State) : k.Keeps s (dropLateCommit l s) := .of_steady {}

/-! ## Meanings that answer or refuse -/

/-- The law `k` is kept by whatever state a meaning answers. -/
def Law.KeptBy (k : Law) (s : State) (r : Result) : Prop := ∀ t, r = .next t → k.Keeps s t

theorem Law.KeptBy.next {s t : State} (h : k.Keeps s t) : k.KeptBy s (.next t) := fun u e => by
  injection e with e; exact e ▸ h

theorem Law.KeptBy.refused {s : State} {r : Refusal} : k.KeptBy s (.refused r) := fun _ e => nomatch e

theorem taking_keeps {l : LaneId} {code : Byte} {s : State} {f : StepWord → State → State}
    (h : ∀ w t, k.AddressAt t l → t.map = s.map → (t.lane l).stage = .take w → k.Keeps t (f w t)) :
    k.KeptBy s (taking l code s f) := fun u e => .of_law fun law => by
  unfold taking at e
  split at e
  · next w stage =>
    split at e
    · injection e with e
      subst e
      have at_ : k.AddressAt s l := .of_stage law stage
      exact .after (h w _ (at_.of_programAddr (by simp [Lane.tookStep])) rfl (by simp [Lane.tookStep, stage]))
        (State.setLane_keeps {})
    · cases e
  · cases e

theorem execBeginSurvey_keeps {s : State} (l : LaneId) (unmarked : s.map.lane = none → k.Unmarked) :
    k.KeptBy s (execBeginSurvey l s) :=
  taking_keeps fun w _ at_ same _ => takeBegin_keeps at_ (by rw [same]; exact unmarked) w

theorem execSink_keeps (l : LaneId) (s : State) : k.KeptBy s (execSink l s) := taking_keeps fun w _ at_ _ _ => takeSink_keeps at_ w

theorem execMark_keeps (l : LaneId) (s : State) : k.KeptBy s (execMark l s) := taking_keeps fun w _ at_ _ _ => takeMark_keeps at_ w

theorem execEndSurvey_keeps (l : LaneId) (s : State) : k.KeptBy s (execEndSurvey l s) :=
  taking_keeps fun w _ at_ _ _ => takeEnd_keeps at_ w

theorem execRowCommitEnd_keeps (l : LaneId) (stores : Stores) (s : State) : k.KeptBy s (execRowCommitEnd l stores s) := by
  unfold execRowCommitEnd
  split
  · exact .next (.after (landLateCommit_keeps ..) (.after (State.withStores_keeps ..) (dropLateCommit_keeps ..)))
  split
  · split
    · exact .next (.after (afterCommit_keeps ..) (.after (closeFull_keeps ..) (.after (landCommit_keeps ..) (State.withStores_keeps ..))))
    · exact .refused
  · exact .refused

theorem execDrainBegin_keeps (stores : Stores) (s : State) : k.KeptBy s (execDrainBegin stores s) := by
  unfold execDrainBegin
  split
  · exact .refused
  split
  · next due =>
    have drains : k.Keeps s { s.withStores stores with map.phase := .draining } :=
      .after (map_keeps (fun law => law.of_fewer) fun none_ => absurd none_ due.1) (State.withStores_keeps ..)
    dsimp only
    split
    · split
      · exact .next (.after (drainRow_keeps (by simp) ..) drains)
      · exact .next (.after (endDrain_keeps (by simp) _) drains)
    · exact .next (.after (endDrain_keeps (by simp) _) drains)
  · exact .refused

end Sys2Proof.Machine

/-! SUPPORT. Every law kept: the frame intake. -/

namespace Sys2Proof.Machine

set_option Elab.async false

variable {k : Law}

/-! ## Slots that move -/

theorem State.slotsMoved_setSlot {s : State} {i : Nat} {f : Slot → Slot} (shift : SlotShift (s.slot i) (f (s.slot i))) :
    SlotsMoved s (s.setSlot i f) where
  moves j := by
    rw [State.slot_setSlot]
    split
    · next h => rw [h.1]; exact shift
    · exact (SlotMove.refl _).toSlotShift

theorem State.setSlot_keeps {s : State} {i : Nat} {f : Slot → Slot} (move : SlotLaw s → SlotMove (s.slot i) (f (s.slot i))) :
    k.Keeps s (s.setSlot i f) :=
  .of_steady
    { slots := fun _ waits law =>
        (State.slotsMoved_setSlot (move law).toSlotShift).slotLaw (SlotLaw.room_of_le (countP_updateAt_le fun x hx => by
          obtain rfl : s.slot i = x := by simp [State.slot, hx]
          exact (move law).claimed) waits rfl) law }

/-- Every slot moves alike. -/
theorem slotsMap_keeps {s : State} {f : Slot → Slot} (empty : f Slot.empty = Slot.empty) (move : ∀ x, SlotMove x (f x)) :
    k.Keeps s { s with slots := s.slots.map f } :=
  .of_steady
    { slots := fun _ waits law =>
        SlotsMoved.slotLaw (s := s)
          ⟨fun j => by rw [State.slot_map s { s with slots := s.slots.map f } f rfl empty]; exact (move _).toSlotShift, rfl, fun _ _ => id⟩
          (SlotLaw.room_of_le (countP_map_le (fun x => (move x).claimed) _) waits rfl) law }

/-- Requests leave the list. -/
theorem requestsFilter_keeps {s : State} (q : Request → Bool) : k.Keeps s { s with requests := s.requests.filter q } :=
  .of_steady { slots := fun _ => SlotLaw.of_same rfl rfl (fun _ _ asked => (List.mem_filter.mp asked).1) rfl }

/-! ## The end of an exposure -/

theorem exposureOver_setSlot (s : State) (i : Nat) (f : Slot → Slot) :
    (exposureOver s).setSlot i f = exposureOver (s.setSlot i f) := rfl

/-- The slot of the exposure in flight leaves FILLING as the exposure ends (R79). -/
theorem slotLeaves_keeps {s : State} {i : Nat} {f : Slot → Slot} (inFlight : s.exposure.inFlight = some i)
    (leaves : (f (s.slot i)).state ≠ .filling)
    (bound : (s.slot i).binding = none → (f (s.slot i)).binding.isSome = true → (f (s.slot i)).state = .kept)
    (claimed : (s.slot i).state = .filling → (f (s.slot i)).claimed = true → (s.slot i).claimed = true) :
    k.Keeps s (exposureOver (s.setSlot i f)) := by
  refine .of_steady { slots := fun _ waits law => ?_ }
  have filling := (law.filling i).mpr inFlight
  have unbound : (s.slot i).binding = none := by
    refine Classical.byContradiction fun h => ?_
    have := law.bound i (by simpa [Option.isSome_iff_ne_none] using h)
    simp [filling] at this
  have entry (j : Nat) : (exposureOver (s.setSlot i f)).slot j = if j = i then f (s.slot i) else s.slot j := by
    have range : i < s.slots.length := by
      refine Classical.byContradiction fun h => ?_
      simp [State.slot_of_length_le (Nat.le_of_not_lt h), Slot.empty] at filling
    rw [show (exposureOver (s.setSlot i f)).slot j = (s.setSlot i f).slot j from rfl, State.slot_setSlot]
    by_cases hj : j = i
    · subst hj; simp [range]
    · simp [hj]
  have others {j : Nat} (hj : j ≠ i) : (s.slot j).state ≠ .filling := fun h => hj (by
    simpa [inFlight] using ((law.filling j).mp h).symm)
  constructor
  · intro j
    rw [entry, show (exposureOver (s.setSlot i f)).exposure.inFlight = none from rfl]
    by_cases hj : j = i
    · simp [hj, leaves]
    · simp [hj, others hj]
  · intro j
    rw [entry]
    by_cases hj : j = i
    · simp [hj, leaves]
    · simp [hj, others hj]
  · intro j
    rw [entry]
    by_cases hj : j = i
    · simpa [hj] using bound unbound
    · simpa [hj] using law.bound j
  · intro l j asked
    obtain ⟨ready, frame⟩ := law.requested l j asked
    have hj : j ≠ i := by rintro rfl; simp [filling] at ready
    rw [entry, if_neg hj]; exact ⟨ready, frame⟩
  · exact SlotLaw.room_of_le (countP_updateAt_le fun x hx => by
      obtain rfl : s.slot i = x := by simp [State.slot, hx]
      exact claimed filling) waits rfl law

theorem damageFor_keeps (r : ExposureRecord) (orphan : Bool) (s : State) : k.Keeps s (damageFor r orphan s) := .of_law fun law => by
  unfold damageFor
  split
  · exact .refl _ _
  split
  · exact State.bump_keeps ..
  · split
    · next stage => exact endStep_keeps (.of_stage law stage) ..
    · exact .refl _ _

theorem reportDamage_keeps (s : State) : k.Keeps s (reportDamage s) := by
  unfold reportDamage
  split
  · exact .refl _ _
  · next inFlight =>
    have ended : k.Keeps s (exposureOver (s.setSlot _ fun _ => Slot.empty)) :=
      slotLeaves_keeps inFlight (by simp [Slot.empty]) (by simp [Slot.empty]) (by simp [Slot.empty, Slot.claimed])
    dsimp only
    split
    · exact .after (headArbitrate_keeps _) (.after (damageFor_keeps ..) ended)
    · exact .after (headArbitrate_keeps _) ended

/-- A survey request joins for a READY frame of its lane. -/
theorem surveyRequest_keeps {s : State} {l : LaneId} {i : Nat}
    (ready : (s.slot i).state = .ready ∧ (s.slot i).surveyFrameOf l = true) :
    k.Keeps s { s with requests := s.requests ++ [.survey l i] } :=
  .of_steady { slots := fun _ waits law =>
    { law with
      requested := fun m j asked => by
        rcases List.mem_append.mp asked with h | h
        · exact law.requested m j h
        · obtain ⟨rfl, rfl⟩ : m = l ∧ j = i := by simpa using h
          exact ready
      claims := law.room_of_le (s := s) (Nat.le_refl _) waits rfl } }

/-- What becomes of the slot when its frame completes leaves it out of FILLING, with no claim but the one it had (R79). -/
theorem leaveFilling_keeps {s : State} {i : Nat} {r : ExposureRecord} (inFlight : s.exposure.inFlight = some i)
    (record : (s.slot i).record = some r) (n : Nat) :
    k.Keeps s (leaveFilling i r n (s.slot i).orphan (exposureOver s)) := .of_law fun law => by
  have emptied : k.Keeps s (exposureOver (s.setSlot i fun _ => Slot.empty)) :=
    slotLeaves_keeps inFlight (by simp [Slot.empty]) (by simp [Slot.empty]) (by simp [Slot.empty, Slot.claimed])
  unfold leaveFilling
  split
  · next kind _ =>
    have readied : k.Keeps s (exposureOver (s.setSlot i fun x => { x with state := .ready })) :=
      slotLeaves_keeps inFlight (by simp) (by simp +contextual) (by simp [Slot.claimed])
    dsimp only
    by_cases range : i < s.slots.length
    · refine .after (surveyRequest_keeps ?_) readied
      have entry : (exposureOver (s.setSlot i fun x => { x with state := .ready })).slot i = { s.slot i with state := .ready } := by
        rw [show (exposureOver (s.setSlot i _)).slot i = (s.setSlot i _).slot i from rfl, State.slot_setSlot, if_pos ⟨rfl, range⟩]
      simp [exposureOver_setSlot, entry, Slot.surveyFrameOf, record, kind]
    · rw [State.slot_of_length_le (Nat.le_of_not_lt range)] at record
      cases record
  · exact slotLeaves_keeps inFlight (by simp) (by simp +contextual) (by simp [Slot.claimed])
  · exact emptied
  · next kind orphan =>
    split
    · next w stage =>
      have kept : k.Keeps s (exposureOver (s.setSlot i fun x => { x with state := .kept, binding := some (r.lane, w.tag) })) :=
        slotLeaves_keeps inFlight (by simp) (by simp) fun filling _ => by
          simp [Slot.claimed, Slot.holds, filling, record, kind, orphan]
      have at_ : k.AddressAt s r.lane := .of_stage law stage
      refine .after (endStep_keeps ?_ ..) kept
      exact at_
    · exact emptied

theorem reportFrameEnd_keeps {s : State} {i : Nat} (inFlight : s.exposure.inFlight = some i) : k.Keeps s (reportFrameEnd i s) := by
  unfold reportFrameEnd
  dsimp only
  generalize ht : s.store (slotAddr s.intake i + 28) (le 2 s.intake.repaired ++ [1]) = t
  have stored : k.Keeps s t := ht ▸ State.store_keeps ..
  have inFlight_ : t.exposure.inFlight = some i := ht ▸ inFlight
  have slot : s.slot i = t.slot i := ht ▸ rfl
  rw [slot]
  split
  · next record => exact .after (headArbitrate_keeps _) (.after (leaveFilling_keeps inFlight_ record _) stored)
  · next record =>
    refine .after (headArbitrate_keeps _) (.after (.of_steady { slots := fun _ _ law => ?_ }) stored)
    have := law.recorded i ((law.filling i).mpr inFlight_)
    simp [record] at this

/-! ## The head's bytes (R68 to R74) -/

theorem writeLine_keeps (y : Nat) (pixels : List Nat) (s : State) : k.Keeps s (writeLine y pixels s) := by
  unfold writeLine
  split
  · exact State.store_keeps ..
  · exact .refl _ _

theorem repairLines_keeps (n : Nat) (s : State) : k.Keeps s (repairLines n s) := by
  induction n generalizing s with
  | zero => exact .refl _ _
  | succ n ih => exact .after (ih _) (.after (t := writeLine s.intake.expected s.intake.lineBuffer s) (.of_steady {}) (writeLine_keeps ..))

theorem takeLine_keeps (pixels : List Nat) (s : State) : k.Keeps s (takeLine pixels s) := by
  unfold takeLine
  exact .after (t := writeLine s.intake.expected pixels s) (.of_steady {}) (writeLine_keeps ..)

theorem countStray_keeps (s : State) : k.Keeps s (countStray s) := .of_steady {}

theorem takeFrameStart_keeps (s : State) : k.Keeps s (takeFrameStart s) := by
  unfold takeFrameStart
  split
  · exact .of_steady {}
  · exact reportDamage_keeps s
  · exact countStray_keeps s
  · exact countStray_keeps s

theorem receiveLine_keeps (t : LineToken) (s : State) : k.Keeps s (receiveLine t s) := by
  unfold receiveLine
  dsimp only
  split
  · split
    · exact reportDamage_keeps s
    · exact .after (takeLine_keeps ..) (repairLines_keeps ..)
  split
  · exact repairLines_keeps ..
  · exact reportDamage_keeps s

theorem takeLineToken_keeps (bytes : List Byte) (s : State) : k.Keeps s (takeLineToken bytes s) := by
  unfold takeLineToken
  split
  · exact receiveLine_keeps ..
  · exact countStray_keeps s
  · exact countStray_keeps s
  · exact countStray_keeps s

theorem takeFrameEnd_keeps (outstanding : Bool) (s : State) : k.Keeps s (takeFrameEnd outstanding s) := by
  unfold takeFrameEnd
  split
  · split
    · exact .refl _ _
    dsimp only
    split
    · exact .after (reportDamage_keeps _) (repairLines_keeps ..)
    · exact .after (t := repairLines (s.intake.hs - s.intake.expected) s) (.of_steady {}) (repairLines_keeps ..)
  · exact countStray_keeps s
  · exact countStray_keeps s
  · exact countStray_keeps s

theorem takeToken_keeps (outstanding : Bool) (token : HeadToken) (s : State) : k.Keeps s (takeToken outstanding s token) := by
  cases token with
  | frameStart => exact takeFrameStart_keeps s
  | line bytes => exact takeLineToken_keeps bytes s
  | frameEnd => exact takeFrameEnd_keeps outstanding s
  | unknown b => exact countStray_keeps s

theorem takeTokens_keeps (outstanding : Bool) (tokens : List HeadToken) (s : State) :
    k.Keeps s (tokens.foldl (takeToken outstanding) s) := by
  induction tokens generalizing s with
  | nil => exact .refl _ _
  | cons token rest ih => exact .after (ih _) (takeToken_keeps ..)

theorem takeHeadBytes_keeps (outstanding : Bool) (bytes : List Byte) (s : State) : k.Keeps s (takeHeadBytes outstanding bytes s) :=
  .after (takeTokens_keeps ..) (.of_steady {})

theorem execStrobeEnd_keeps (mv : Nat) (s : State) : k.KeptBy s (execStrobeEnd mv s) := by
  have sampled : k.Keeps s (takeSample mv { s with exposure := { s.exposure with strobe := false, led := 0 } }) :=
    .after (takeSample_keeps ..) (.of_steady {})
  unfold execStrobeEnd
  dsimp only
  split
  · split
    · exact .next (.after (reportDamage_keeps _) sampled)
    · exact .next (.after (.of_steady {}) sampled)
  · exact .refused

theorem execSupplyTick_keeps (mv : Nat) (s : State) : k.KeptBy s (execSupplyTick mv s) := by
  unfold execSupplyTick
  split
  · exact .next (.refl _ _)
  · exact .next (takeSample_keeps mv s)

theorem execReadoutTimeout_keeps (s : State) : k.KeptBy s (execReadoutTimeout s) := by
  unfold execReadoutTimeout
  split
  · exact .next (.after (reportDamage_keeps _) (.of_steady {}))
  · exact .refused

theorem execSlotWriteFault_keeps (left : Stores) (s : State) : k.KeptBy s (execSlotWriteFault left s) := by
  have left_ : k.Keeps s (s.withStores left) := State.withStores_keeps ..
  unfold execSlotWriteFault
  dsimp only
  split
  · exact .next left_
  · exact .next (.after (.of_steady {}) left_)
  · exact .next (.after (reportDamage_keeps _) left_)
  · exact .next (.after (reportDamage_keeps _) left_)

theorem execSlotLineWritesEnded_keeps (s : State) : k.KeptBy s (execSlotLineWritesEnded s) := by
  unfold execSlotLineWritesEnded
  split
  · exact .next (.of_steady {})
  · exact .refused

theorem execFrameComplete_keeps (s : State) : k.KeptBy s (execFrameComplete s) := by
  unfold execFrameComplete
  split
  · next inFlight => exact .next (reportFrameEnd_keeps inFlight)
  · exact .refused

end Sys2Proof.Machine

/-! SUPPORT. Every law kept: renders and map faults. -/

namespace Sys2Proof.Machine

set_option Elab.async false

variable {k : Law}

/-! ## The rectifier and the arbiter (chapters 8 and 10) -/

theorem SlotMove.renderEnded {x : Slot} : SlotMove x x.renderEnded := by
  unfold Slot.renderEnded
  split
  · next h => exact ⟨⟨by simp [h], .inl rfl, fun b => by simpa [h] using b, by simp [h]⟩, by simp [Slot.claimed]⟩
  split
  · next h => exact ⟨⟨by simp [h.1, Slot.empty], .inr ⟨by simp [h.1], by simp [h.1]⟩, by simp [Slot.empty], by simp [h.1]⟩,
      by simp [Slot.claimed, Slot.empty]⟩
  · exact ⟨⟨Iff.rfl, .inl rfl, id, id⟩, id⟩

theorem renderOver_keeps (s : State) : k.Keeps s (renderOver s) := by
  unfold renderOver
  split
  · exact .refl _ _
  · next r _ => exact .after (t := s.setSlot r.slot Slot.renderEnded) (.of_steady {}) (State.setSlot_keeps fun _ => .renderEnded)

theorem renderEnd_keeps (s : State) : k.Keeps s (renderEnd s) := by
  unfold renderEnd
  split
  · exact .refl _ _
  split
  · exact .after (headArbitrate_keeps _) (renderOver_keeps s)
  · exact renderOver_keeps s

theorem finishPatch_keeps (l : LaneId) (code : DoneCode) (after : After) (s : State)
    (jump : ∀ t, after = .jump t → t.toNat % 32 = 0 := by simp) : k.Keeps s (finishPatch l code after s) := .of_law fun law => by
  unfold finishPatch
  split
  · next stage => exact endStep_keeps (.of_stage law stage) _ _ _ jump
  · exact .refl _ _

theorem stopRender_keeps (r : Render) (s : State) : k.Keeps s (stopRender r s) := by
  unfold stopRender
  split
  · exact renderEnd_keeps s
  · exact .after (issueDone_keeps ..) (renderEnd_keeps s)

theorem skipFrame_keeps (l : LaneId) (s : State) : k.Keeps s (skipFrame l s) := by
  have ended : k.Keeps s (renderEnd (s.bump l fun c => { c with starved := sat32 c.starved 1 })) :=
    .after (renderEnd_keeps _) (State.bump_keeps ..)
  unfold skipFrame
  dsimp only
  split
  · exact ended
  · exact .after (raiseIntermediate_keeps ..) (.after (map_keeps fun law => law.of_fewer) ended)

theorem admitFrame_keeps (l : LaneId) (n0 : Int) (s : State) : k.Keeps s (admitFrame l n0 s) := by
  unfold admitFrame
  split
  · exact .after (endAdmission_keeps ..) (map_keeps fun law => law.of_fewer)
  split
  · exact skipFrame_keeps ..
  have fed : k.Keeps s { s with map.starving := false } := map_keeps fun law => law.of_fewer
  dsimp only
  split
  · split
    · exact .after (issueCommit_keeps ..) fed
    · exact fed
  · exact .after (endAdmission_keeps ..) fed

/-- A granted survey request leaves the list as its READY slot is rendered (R80, R162). -/
theorem surveyGrant_keeps {s : State} {l : LaneId} {i : Nat} (asked : Request.survey l i ∈ s.requests) :
    k.Keeps s (State.setSlot { s with requests := s.requests.filter fun p => decide (p ≠ .survey l i) } i
      fun x => { x with state := .rendering, inUse := true }) := by
  refine .of_steady { slots := fun _ waits law => ?_ }
  obtain ⟨ready, frame⟩ := law.requested l i asked
  have range : i < s.slots.length := by
    refine Classical.byContradiction fun h => ?_
    simp [State.slot_of_length_le (Nat.le_of_not_lt h), Slot.empty] at ready
  have unbound : (s.slot i).binding = none := by
    refine Classical.byContradiction fun h => ?_
    have := law.bound i (by simpa [Option.isSome_iff_ne_none] using h)
    simp [ready] at this
  generalize ht : State.setSlot { s with requests := s.requests.filter fun p => decide (p ≠ .survey l i) } i
    (fun x => { x with state := .rendering, inUse := true }) = t at waits ⊢
  have entry (j : Nat) : t.slot j = if j = i then { s.slot i with state := .rendering, inUse := true } else s.slot j := by
    rw [← ht, State.slot_setSlot]
    by_cases hj : j = i
    · subst hj; simp [range, State.slot]
    · simp [hj, State.slot]
  have inFlight : t.exposure.inFlight = s.exposure.inFlight := ht ▸ rfl
  constructor
  · intro j
    rw [entry, inFlight, ← law.filling j]
    by_cases hj : j = i <;> simp [hj, ready]
  · intro j
    rw [entry]
    by_cases hj : j = i
    · simp [hj]
    · simpa [hj] using law.recorded j
  · intro j
    rw [entry]
    by_cases hj : j = i
    · simp [hj, unbound]
    · simpa [hj] using law.bound j
  · intro m j left
    obtain ⟨was, other⟩ : Request.survey m j ∈ s.requests ∧ (m ≠ l ∨ j ≠ i) := by simpa [← ht] using left
    obtain ⟨readyToo, frameToo⟩ := law.requested m j was
    have hj : j ≠ i := by
      rintro rfl
      refine other.elim (fun ne => ne ?_) fun ne => ne rfl
      unfold Slot.surveyFrameOf at frame frameToo
      split at frame <;> simp_all
    rw [entry, if_neg hj]; exact ⟨readyToo, frameToo⟩
  · refine SlotLaw.room_of_le (s := s) ?_ waits (ht ▸ rfl) law
    rw [← ht]
    exact countP_updateAt_le fun x _ => by simp [Slot.claimed]

theorem startPatchRender_keeps (l : LaneId) (o : PatchOps) (s : State) : k.Keeps s (startPatchRender l o s) := by
  unfold startPatchRender
  split
  · exact .refl _ _
  next i _ =>
    split
    · exact .refl _ _
    · exact .after (t := s.setSlot i fun x => { x with inUse := true }) (.of_steady {})
        (State.setSlot_keeps fun _ => ⟨⟨Iff.rfl, .inl rfl, id, id⟩, id⟩)

theorem startRender_keeps {q : Request} {s : State} (asked : q ∈ s.requests) : k.Keeps s (startRender q s) := by
  cases q with
  | patch l o => exact .after (startPatchRender_keeps l o _) (requestsFilter_keeps _)
  | survey l i =>
    unfold startRender startSurveyRender
    dsimp only
    split
    · exact requestsFilter_keeps _
    · exact .after (admitFrame_keeps ..) (.after (.of_steady {}) (surveyGrant_keeps asked))

theorem surveyRendered_keeps (r : Render) (s : State) : k.Keeps s (surveyRendered r s) :=
  .after (State.bump_keeps ..) (renderEnd_keeps s)

theorem handSurveyRow_keeps (r : Render) (last n : Int) (counts : RowCounts) (codes : List Byte) (s : State) :
    k.Keeps s (handSurveyRow r last n counts codes s) := by
  unfold handSurveyRow
  dsimp only
  generalize ht : (if surveyRenderOf s r.lane then takeCandidate (rowRecord s.map r n counts) codes s else s) = t
  have handed : k.Keeps s t := by
    rw [← ht]
    split
    · exact takeCandidate_keeps ..
    · exact .refl _ _
  split
  · exact .after (renderEnd_keeps t) handed
  split
  · exact .after (.of_steady {}) handed
  · exact .after (surveyRendered_keeps r t) handed

theorem handPatchRow_keeps (r : Render) (o : PatchOps) (j : Nat) (counts : RowCounts) (codes : List Byte) (s : State) :
    k.Keeps s (handPatchRow r o j counts codes s) := .of_steady {}

theorem finishRow_keeps (r : Render) (columns : List Column) (during : Stores) (seen : List Nat) (s : State) :
    k.Keeps s (finishRow r columns during seen s) := by
  unfold finishRow
  dsimp only
  split
  · exact .after (handSurveyRow_keeps ..) (.after (t := s.withStores during) (.of_steady {}) (State.withStores_keeps ..))
  · exact .after (handPatchRow_keeps ..) (.after (t := s.withStores during) (.of_steady {}) (State.withStores_keeps ..))

theorem grantPointPast_keeps (s : State) : k.Keeps s (grantPointPast s) := by
  refine .of_steady { attention := AttentionLaw.of_same rfl (by simp), lanes := fun l => ?_ }
  rw [grantPointPast_lane]
  refine
    { waits := by simp [Lane.grantPast_waits]
      aligned := fun _ law => ⟨fun addressed => ?_, fun t h => law.2 t (Lane.grantPast_stage_doneWrite h)⟩ }
  by_cases left : (s.lane l).stage = .leftHold
  · simpa using law.1 (Lane.addressed_of_stage (by simp [left]) (by simp [left]))
  · rw [Lane.grantPast_of_ne _ left] at addressed ⊢; exact law.1 addressed

theorem mem_lanesByClass (s : State) (l : LaneId) : l ∈ lanesByClass s :=
  List.mem_flatMap.mpr ⟨_, mem_allLanes (s.lane l).cls, List.mem_filter.mpr ⟨mem_allLanes l, by simp⟩⟩

/-- The request granted is one of the list, and eligible (R161). -/
theorem nextGrant_eq_some {s : State} {q : Request} (h : nextGrant s = some q) :
    q ∈ s.requests ∧ requestEligible s q = true ∧ s.rect.render = none := by
  unfold nextGrant at h
  split at h
  · cases h
  · next idle =>
    have mem : q ∈ grantOrder s := List.mem_of_find?_eq_some h
    simp only [grantOrder, List.mem_flatMap, List.mem_append, List.mem_filter] at mem
    obtain ⟨l, -, asked | asked⟩ := mem
    · exact ⟨asked.1, List.find?_some h, by simpa using idle⟩
    · exact ⟨asked.1, List.find?_some h, by simpa using idle⟩

theorem execRenderGrant_keeps (stores : Stores) (s : State) : k.KeptBy s (execRenderGrant stores s) := by
  unfold execRenderGrant
  split
  · next granted =>
    exact .next (.after (startRender_keeps (by simpa using (nextGrant_eq_some granted).1))
      (.after (grantPointPast_keeps _) (State.withStores_keeps ..)))
  · exact .refused

theorem execColumnTableEnd_keeps (s : State) : k.KeptBy s (execColumnTableEnd s) := by
  unfold execColumnTableEnd
  split
  · exact .refused
  split
  · exact .refused
  split
  · exact .next (stopRender_keeps ..)
  split
  · exact .next (surveyRendered_keeps ..)
  · exact .next (.of_steady {})

theorem execRowFinished_keeps (reads : RowReads) (s : State) : k.KeptBy s (execRowFinished reads s) := by
  unfold execRowFinished
  split
  · exact .refused
  split
  · exact .refused
  · exact .next (.after (finishRow_keeps ..) (State.withStores_keeps ..))

theorem sourceFaultFor_keeps (r : Render) (s : State) : k.Keeps s (sourceFaultFor r s) := by
  unfold sourceFaultFor
  split
  · split
    · exact .refl _ _
    · exact .after (raiseAlert_keeps ..) (State.bump_keeps ..)
  · exact finishPatch_keeps ..

theorem execSourceFault_keeps (s : State) : k.KeptBy s (execSourceFault s) := by
  unfold execSourceFault
  split
  · exact .refused
  split
  · exact .refused
  split
  · split
    · exact .next (stopRender_keeps ..)
    · exact .next (.after (sourceFaultFor_keeps ..) (renderEnd_keeps s))
  · exact .refused

theorem patchRowLanded_keeps (r : Render) (o : PatchOps) (j : Nat) (s : State) : k.Keeps s (patchRowLanded r o j s) := by
  unfold patchRowLanded
  split
  · exact stopRender_keeps ..
  split
  · exact .of_steady {}
  · exact .after (finishPatch_keeps ..) (renderEnd_keeps s)

theorem patchRowFaulted_keeps (r : Render) (s : State) : k.Keeps s (patchRowFaulted r s) := by
  unfold patchRowFaulted
  split
  · exact stopRender_keeps ..
  · exact .after (finishPatch_keeps ..) (renderEnd_keeps s)

theorem execPatchRowWriteEnd_keeps (write : WriteEnd) (s : State) : k.KeptBy s (execPatchRowWriteEnd write s) := by
  unfold execPatchRowWriteEnd
  split
  · exact .refused
  split
  · exact .next (.after (patchRowLanded_keeps ..) (State.store_keeps ..))
  · exact .next (.after (patchRowFaulted_keeps ..) (State.withStores_keeps ..))
  · exact .refused

/-! ## A map fault -/

/-- The frames of a survey that ends leave the arbiter: READY ones become DONE with their requests withdrawn (R83, R155). -/
theorem dropSurveyFrames_keeps (l : LaneId) (s : State) : k.Keeps s (dropSurveyFrames l s) := by
  refine .of_steady { slots := fun _ waits law => ?_ }
  have empty : Slot.surveyDropped l Slot.empty = Slot.empty := rfl
  have entry (j : Nat) : (dropSurveyFrames l s).slot j = (s.slot j).surveyDropped l := State.slot_map s _ _ rfl empty j
  have record (x : Slot) : (x.surveyDropped l).record = x.record := by
    unfold Slot.surveyDropped; split
    · rfl
    · split <;> rfl
  constructor
  · intro j
    rw [entry, show (dropSurveyFrames l s).exposure.inFlight = s.exposure.inFlight from rfl, ← law.filling j]
    unfold Slot.surveyDropped
    split
    · next h => simp [h.2]
    split
    · rfl
    · rfl
  · intro j
    rw [entry, record]
    intro filling
    refine law.recorded j ?_
    unfold Slot.surveyDropped at filling
    split at filling
    · cases filling
    split at filling <;> exact filling
  · intro j bound
    rw [entry] at bound ⊢
    unfold Slot.surveyDropped at bound ⊢
    split at bound
    · next h => exact absurd (law.bound j bound) (by simp [h.2])
    split at bound <;> simp_all [law.bound j]
  · intro m j left
    obtain ⟨was, other⟩ : Request.survey m j ∈ s.requests ∧ m ≠ l := by
      simpa [dropSurveyFrames, withdrawSurvey, Request.isSurveyOf] using left
    obtain ⟨ready, frame⟩ := law.requested m j was
    have notMine : (s.slot j).surveyFrameOf l = false := by
      unfold Slot.surveyFrameOf at frame ⊢
      split at frame <;> simp_all
    have same : (s.slot j).surveyDropped l = s.slot j := by simp [Slot.surveyDropped, notMine]
    rw [entry, same]; exact ⟨ready, frame⟩
  · refine SlotLaw.room_of_le (s := s) (countP_map_le (fun x claimed => ?_) _) waits rfl law
    unfold Slot.surveyDropped at claimed
    split at claimed
    · simp [Slot.claimed] at claimed
    split at claimed
    · next h => simp [Slot.claimed, h.2] at claimed
    · exact claimed

theorem closeFaulted_keeps (l : LaneId) (onSinkWrite : Bool) (sinks : List Sink) (s : State) :
    k.Keeps s (closeFaulted l onSinkWrite sinks s) := by
  unfold closeFaulted
  split
  · exact .after (closeAbandoned_keeps ..) (closeSink_keeps ..)
  · exact closeAbandoned_keeps ..

/-- The map changes with the trigger disarmed. -/
theorem map_keeps_of_disarmed {s : State} {m : WallMap} (law : MapLaw s.map → MapLaw m) (off : s.trigger.armed = none) :
    k.Keeps s { s with map := m } :=
  .of_steady
    { map := law
      trigger := fun _ _ _ held =>
        .of_disarmed off (held.law.disarmed off).1 (held.law.disarmed off).2 }

theorem mapFaultSurvey_keeps {l : LaneId} {s : State} (bound : s.map.lane = some l) (onSinkWrite : Bool) :
    k.Keeps s (mapFaultSurvey l onSinkWrite s) := .of_law fun law => by
  unfold mapFaultSurvey
  dsimp only
  generalize hu : (if surveyRenderOf (dropSurveyFrames l (disarmTrigger l s)) l
    then renderOver (dropSurveyFrames l (disarmTrigger l s)) else dropSurveyFrames l (disarmTrigger l s)) = u
  have dropped : k.Keeps s u := by
    refine .trans (.after (dropSurveyFrames_keeps l _) (disarmTrigger_keeps l s)) ?_
    rw [← hu]
    split
    · exact renderOver_keeps _
    · exact .refl _ _
  have trigger : u.trigger = (disarmTrigger l s).trigger := by rw [← hu]; split <;> simp
  refine .after (closeFaulted_keeps ..) (.after (.of_steady
    { map := fun law => law.of_emptyRows rfl (by simp [WallMap.faultedMap]) (by simp [WallMap.faultedMap])
      trigger := fun mark pitch hk _ => ?_ }) dropped)
  subst hk
  obtain ⟨armed, hw, pending⟩ := disarmTrigger_disarmed bound (show TriggerHeld mark pitch s from law).law
  exact .of_disarmed (by simpa [trigger] using armed) (by simpa [trigger] using hw) (by simpa [trigger] using pending)

theorem faultStep_keeps (l : LaneId) (m : WallMap) (s : State) : k.Keeps s (faultStep l m s) := .of_law fun law => by
  unfold faultStep
  split
  · next stage => exact endStep_keeps (.of_stage law stage) ..
  · next stage => exact endStep_keeps (.of_stage law stage) ..
  · next stage => exact endStep_keeps (.of_stage law stage) ..
  · next stage => exact endStep_keeps (.of_stage law stage) ..
  · exact .refl _ _
  · exact .refl _ _
  · exact .refl _ _
  · exact .refl _ _
  · exact .refl _ _
  · exact State.setLane_keeps (.of_addressed (had := Lane.addressed_of_course (.inl rfl) (.inl rfl)))
  · exact State.setLane_keeps (.of_addressed (had := Lane.addressed_of_course (.inl rfl) (.inl rfl)))
  · exact State.setLane_keeps (.of_addressed (had := Lane.addressed_of_course (.inl rfl) (.inl rfl)))
  · exact State.setLane_keeps (.of_addressed (had := Lane.addressed_of_course (.inl rfl) (.inl rfl)))
  · exact State.setLane_keeps (.of_addressed (had := Lane.addressed_of_course (.inl rfl) (.inl rfl)))
  · exact State.setLane_keeps (.of_addressed (had := Lane.addressed_of_course (.inl rfl) (.inl rfl)))

theorem mapFaultLane_keeps (l : LaneId) (m : WallMap) (s : State) : k.Keeps s (mapFaultLane l m s) := by
  unfold mapFaultLane
  split
  · exact .after (raiseAlert_keeps ..) (State.setLane_keeps {})
  · exact .after (raiseStatus_keeps ..) (.after (faultStep_keeps ..) (State.setLane_keeps (.of_addressed
      (had := Lane.addressed_of_course (.inr rfl) (.inr (.inr rfl))) (stage := .inr rfl))))

theorem mapFault_keeps {l : LaneId} {s : State} (bound : s.map.lane = some l) (onSinkWrite : Bool) :
    k.Keeps s (mapFault l onSinkWrite s) :=
  .after (headArbitrate_keeps _) (.after (unbindWhenClosed_keeps _) (.after (mapFaultLane_keeps ..) (mapFaultSurvey_keeps bound _)))

theorem execMapFault_keeps (l : LaneId) (access : MapAccess) (left : Stores) (s : State) :
    k.KeptBy s (execMapFault l access left s) := by
  have left_ : k.Keeps s (s.withStores left) := State.withStores_keeps ..
  unfold execMapFault
  dsimp only
  split
  · next due => exact .next (.after (mapFault_keeps (by simpa [State.surveyOpen] using due.1) _) left_)
  split
  · exact .next left_
  split
  · exact .next (.after (closeAbandoned_keeps ..) (.after (dropLateCommit_keeps ..) left_))
  · exact .refused

end Sys2Proof.Machine

/-! SUPPORT. Every law kept: the odometer and CLEAR. -/

namespace Sys2Proof.Machine

set_option Elab.async false

variable {k : Law}

/-! ## The odometer (chapter 3) -/

/-- What counting keeps at every moment, also in the middle of a settings load (R42, R45). -/
structure CountLaw (o : Odometer) : Prop where
  follows : o.p = o.w1 ∨ o.p = o.w2
  fits : countFits o.w1 ∧ countFits o.w2 ∧ countFits o.p

theorem OdometerLaw.countLaw {o : Odometer} (law : OdometerLaw o) : CountLaw o := ⟨law.follows, law.fits⟩

theorem resync_countLaw {o : Odometer} (law : CountLaw o) : CountLaw (resync o) := by
  unfold resync
  split
  · exact ⟨.inl rfl, law.fits.2.2, law.fits.2.2, law.fits.2.2⟩
  · exact law

theorem followWheel_of_at {p v d : Int} (h : v = p + d) : followWheel p v d = v := if_pos h

theorem followWheel_of_ne {p v d : Int} (h : v ≠ p + d) : followWheel p v d = p := if_neg h

/-- A count that fits moves its wheel by one, and p with it when the wheel was at p (R42). -/
theorem followed_countLaw {o : Odometer} (law : CountLaw o) (w : Wheel) (d : Int) (fits : countFits (o.count w + d)) :
    CountLaw { o.withCount w (o.count w + d) with p := followWheel o.p (o.count w + d) d } := by
  obtain ⟨follows, w1, w2, p⟩ := law
  by_cases at_ : o.count w + d = o.p + d
  · rw [followWheel_of_at at_]
    cases w with
    | one => exact ⟨.inl rfl, fits, w2, fits⟩
    | two => exact ⟨.inr rfl, w1, fits, fits⟩
  · rw [followWheel_of_ne at_]
    cases w with
    | one => exact ⟨.inr (follows.resolve_left fun e => at_ (by rw [e]; rfl)), fits, w2, p⟩
    | two => exact ⟨.inl (follows.resolve_right fun e => at_ (by rw [e]; rfl)), w1, fits, p⟩

theorem countWheel_countLaw {o : Odometer} (law : CountLaw o) (w : Wheel) (d : Int) : CountLaw (countWheel w d o) := by
  unfold countWheel
  dsimp only
  split
  · next fits => exact resync_countLaw (followed_countLaw law w d fits)
  · exact ⟨law.follows, law.fits⟩

theorem Odometer.phaseError_countLaw {o : Odometer} (law : CountLaw o) (w : Wheel) : CountLaw (o.phaseError w) := by
  cases w <;> exact ⟨law.follows, law.fits⟩

theorem applyDecoded_countLaw {o : Odometer} (law : CountLaw o) (w : Wheel) (d : Decoded) : CountLaw (applyDecoded w o d) := by
  cases d with
  | nothing => exact law
  | up => exact countWheel_countLaw law w 1
  | down => exact countWheel_countLaw law w (-1)
  | error => exact Odometer.phaseError_countLaw law w

theorem takePair_countLaw {o : Odometer} (law : CountLaw o) (w : Wheel) : CountLaw (takePair w o) := by
  have decoded := applyDecoded_countLaw law w (decodeChange o w (o.accepted.pair w))
  unfold takePair
  cases w <;> exact ⟨decoded.follows, decoded.fits⟩

theorem acceptLevels_countLaw {o : Odometer} (law : CountLaw o) (e : Edge) : CountLaw (acceptLevels o e) := by
  cases e <;> exact ⟨law.follows, law.fits⟩

theorem acceptEdge_countLaw {o : Odometer} (law : CountLaw o) (e : Edge) : CountLaw (acceptEdge e o) := by
  unfold acceptEdge
  split
  · exact takePair_countLaw (acceptLevels_countLaw law e) _
  · exact acceptLevels_countLaw law e

/-! ### The laws that the modes and the limit bring -/

@[simp] theorem resync_modes (o : Odometer) :
    (resync o).mode1 = o.mode1 ∧ (resync o).mode2 = o.mode2 ∧ (resync o).slipLimit = o.slipLimit := by
  unfold resync; split <;> simp

/-- After a resync the counts are within the limit, or no limit applies (R43). -/
theorem resync_slip (o : Odometer) (on1 : o.mode1 ≠ .off) (on2 : o.mode2 ≠ .off) (limited : 0 < o.slipLimit) :
    ((resync o).w1 - (resync o).w2).natAbs ≤ o.slipLimit := by
  unfold resync
  split
  · simp
  · next h => simpa [Odometer.slipped, Odometer.bothEnabled, on1, on2, limited] using h

/-- The counts of a single wheel are not resynced. -/
theorem resync_of_off {o : Odometer} (off : o.mode1 = .off ∨ o.mode2 = .off) : resync o = o := by
  have : o.slipped = false := by rcases off with h | h <;> simp [Odometer.slipped, Odometer.bothEnabled, h]
  simp [resync, this]

/-- Counts that obey the counting law, with single wheels at p, obey the law of the odometer once resynced. -/
theorem resync_odometerLaw {o : Odometer} (law : CountLaw o) (first : o.mode1 ≠ .off → o.mode2 = .off → o.p = o.w1)
    (second : o.mode1 = .off → o.mode2 ≠ .off → o.p = o.w2) : OdometerLaw (resync o) where
  follows := (resync_countLaw law).follows
  fits := (resync_countLaw law).fits
  first on off := by
    simp only [resync_modes] at on off
    rw [resync_of_off (.inr off)]; exact first on off
  second off on := by
    simp only [resync_modes] at on off
    rw [resync_of_off (.inl off)]; exact second off on
  slip on1 on2 limited := by
    simp only [resync_modes] at on1 on2 limited ⊢
    exact resync_slip o on1 on2 limited

theorem OdometerLaw.of_pins {o q : Odometer} (law : OdometerLaw o) (p : q.p = o.p := by rfl) (w1 : q.w1 = o.w1 := by rfl)
    (w2 : q.w2 = o.w2 := by rfl) (m1 : q.mode1 = o.mode1 := by rfl) (m2 : q.mode2 = o.mode2 := by rfl)
    (limit : q.slipLimit = o.slipLimit := by rfl) : OdometerLaw q := law.of_same p w1 w2 m1 m2 limit

/-- A count of an enabled wheel keeps the laws of the odometer (R42, R43, R45). -/
theorem countWheel_odometerLaw {o : Odometer} (law : OdometerLaw o) {w : Wheel} (on : o.mode w ≠ .off) (d : Int) :
    OdometerLaw (countWheel w d o) := by
  unfold countWheel
  dsimp only
  split
  · next fits =>
    refine resync_odometerLaw (followed_countLaw law.countLaw w d fits) ?_ ?_
    · cases w with
      | one =>
        intro on1 off2
        have at_ : o.p = o.w1 := law.first on1 off2
        exact followWheel_of_at (by rw [at_]; rfl)
      | two => exact fun _ off2 => absurd off2 on
    · cases w with
      | one => exact fun off1 _ => absurd off1 on
      | two =>
        intro off1 on2
        have at_ : o.p = o.w2 := law.second off1 on2
        exact followWheel_of_at (by rw [at_]; rfl)
  · exact law.of_pins

theorem takePair_odometerLaw {o : Odometer} (law : OdometerLaw o) (w : Wheel) : OdometerLaw (takePair w o) := by
  have decoded : OdometerLaw (applyDecoded w o (decodeChange o w (o.accepted.pair w))) := by
    by_cases off : o.mode w = .off
    · simpa [decodeChange, off, applyDecoded] using law
    · cases decodeChange o w (o.accepted.pair w) with
      | nothing => exact law
      | up => exact countWheel_odometerLaw law off 1
      | down => exact countWheel_odometerLaw law off (-1)
      | error => cases w <;> exact law.of_pins
  unfold takePair
  cases w <;> exact decoded.of_pins

theorem acceptEdge_odometerLaw {o : Odometer} (law : OdometerLaw o) (e : Edge) : OdometerLaw (acceptEdge e o) := by
  have levels : OdometerLaw (acceptLevels o e) := by cases e <;> exact law.of_pins
  unfold acceptEdge
  split
  · exact takePair_odometerLaw levels _
  · exact levels

theorem acceptOverdue_countLaw {o : Odometer} (law : CountLaw o) (timers : List (Edge × Nat)) : CountLaw (acceptOverdue timers o) := by
  induction timers generalizing o with
  | nil => exact law
  | cons timer rest ih =>
    unfold acceptOverdue
    split
    · exact ih (acceptEdge_countLaw law _)
    · exact ih law

/-- A settings load leaves the odometer within its laws, whatever modes and limit it brings (R51). -/
theorem loadOdometer_odometerLaw {o : Odometer} (law : OdometerLaw o) (c : Settings) (timers : List (Edge × Nat)) :
    OdometerLaw (loadOdometer c timers o) := by
  have taken : CountLaw (takeWheelSettings c o) := ⟨law.follows, law.fits⟩
  unfold loadOdometer
  dsimp only
  generalize hj : (if o.filterCode = c.filterCode then takeWheelSettings c o else acceptOverdue timers (takeWheelSettings c o)) = q
  have judged : CountLaw q := by
    rw [← hj]
    split
    · exact taken
    · exact acceptOverdue_countLaw taken timers
  have zeroed : CountLaw (zeroCounts c.zeroFlag q) := by
    unfold zeroCounts
    split
    · have zero : countFits 0 := by decide
      exact ⟨.inl rfl, zero, zero, zero⟩
    · exact judged
  generalize zeroCounts c.zeroFlag q = z at zeroed
  have cleared : CountLaw (clearCounts z) := ⟨zeroed.follows, zeroed.fits⟩
  generalize clearCounts z = y at cleared
  obtain ⟨follows, w1, w2, p⟩ := cleared
  unfold alignSingle
  split
  · next off1 off2 => exact resync_odometerLaw ⟨follows, w1, w2, p⟩ (absurd off1) fun _ on => absurd off2 on
  · next off1 _ => exact resync_odometerLaw ⟨.inr rfl, w1, p, p⟩ (absurd off1) fun _ _ => rfl
  · next _ on1 => exact resync_odometerLaw ⟨.inl rfl, p, w2, p⟩ (fun _ _ => rfl) fun off1 _ => absurd off1 on1
  · next on1 on2 =>
    refine resync_odometerLaw ⟨follows, w1, w2, p⟩ (fun _ off2 => ?_) fun off1 _ => ?_
    · cases h1 : y.mode1 <;> simp_all
    · cases h2 : y.mode2 <;> simp_all

theorem offerPosition_keeps {s : State} {o : Odometer} (law : OdometerLaw s.odo → OdometerLaw o) : k.Keeps s (offerPosition o s) := by
  have moved : k.Keeps s { s with odo := o } := .of_steady { odo := law }
  unfold offerPosition
  split
  · exact moved
  · exact .after (evalTrigger_keeps _) moved

theorem execInputPinChange_keeps (i : Input) (level : Bool) (s : State) : k.KeptBy s (execInputPinChange i level s) :=
  .next (.of_steady { odo := fun law => law.of_pins })

theorem execAcceptedEdge_keeps (e : Edge) (s : State) : k.KeptBy s (execAcceptedEdge e s) := by
  unfold execAcceptedEdge
  split
  · exact .next (offerPosition_keeps fun law => acceptEdge_odometerLaw law e)
  · exact .refused

/-! ## CLEAR (R10, R11) -/

theorem abandonStep_keeps (l : LaneId) (results : List Byte) (s : State) : k.Keeps s (abandonStep l results s) := issueDone_keeps ..

theorem abandonRender_keeps (l : LaneId) (s : State) : k.Keeps s (abandonRender l s) := by
  unfold abandonRender
  split
  · exact .after (abandonStep_keeps ..) (requestsFilter_keeps _)
  · exact .refl _ _

theorem discardRead_keeps (l : LaneId) (r : DiscardedRead) (s : State) : k.Keeps s (discardRead l r s) := State.setLane_keeps {}

theorem clearStep_keeps (l : LaneId) (s : State) : k.Keeps s (clearStep l s) := by
  unfold clearStep
  split
  · exact discardRead_keeps ..
  · exact .after (discardRead_keeps ..) (abandonStep_keeps ..)
  · exact abandonStep_keeps ..
  · exact abandonStep_keeps ..
  · exact abandonStep_keeps ..
  · exact abandonStep_keeps ..
  · exact abandonStep_keeps ..
  · exact abandonRender_keeps ..
  all_goals exact .refl _ _

theorem detachWrites_keeps (l : LaneId) (s : State) : k.Keeps s (detachWrites l s) := .of_steady {}

theorem stopRenderOf_keeps (l : LaneId) (s : State) : k.Keeps s (stopRenderOf l s) := .of_steady {}

theorem clearSinks_keeps (l : LaneId) (sinks : List Sink) (commit : Option Commit) (s : State) :
    k.Keeps s (clearSinks l sinks commit s) := by
  unfold clearSinks
  split
  · exact .of_steady {}
  · exact closeAbandoned_keeps ..

theorem clearSurvey_keeps (l : LaneId) (s : State) : k.Keeps s (clearSurvey l s) := by
  unfold clearSurvey
  split
  · next bound =>
    have dropped : k.Keeps s (dropSurveyFrames l { disarmTrigger l s with map := s.map.unbound }) :=
      .after (dropSurveyFrames_keeps ..)
        (disarmTrigger_map_keeps (by simpa [State.surveyOpen] using bound) fun _ => s.map.unbound_mapLaw)
    exact .after (clearSinks_keeps ..) dropped
  · exact .refl _ _

/-- A KEPT slot loses its binding (R81). -/
theorem SlotMove.unkeep {x : Slot} (kept : x.state = .kept) : SlotMove x x.unkeep := by
  unfold Slot.unkeep
  split
  · exact ⟨⟨Iff.rfl, .inl rfl, by simp, by simp [kept]⟩, by simp [Slot.claimed, kept]⟩
  · exact ⟨⟨by simp [Slot.empty, kept], .inr (by simp [kept]), by simp [Slot.empty], by simp [kept]⟩, by simp [Slot.claimed, Slot.empty]⟩

theorem SlotMove.laneCleared (l : LaneId) (x : Slot) : SlotMove x (x.laneCleared l) := by
  unfold Slot.laneCleared
  split
  · split
    · next h =>
      exact .unkeep h.2
    · exact .refl _
  · split
    · exact ⟨⟨Iff.rfl, .inl rfl, id, id⟩, by simp +contextual [Slot.claimed]⟩
    · exact .refl _

/-- A lane leaves its queue as its status clears. -/
theorem leaveQueue_attentionLaw {s : State} {l : LaneId} {f : Lane → Lane} (cleared : (f (s.lane l)).statusPending = false)
    (law : AttentionLaw s) : AttentionLaw (leaveQueue l (s.setLane l f)) where
  member m c := by
    have lane : (leaveQueue l (s.setLane l f)).lane m = (s.setLane l f).lane m := rfl
    rw [lane]
    simp only [leaveQueue, State.setLane_frame, Four.get_map, List.mem_filter, law.member m c, State.lane_setLane]
    by_cases hm : m = l
    · subst hm; simp [cleared]
    · simp [hm]
  once c := by
    simp only [leaveQueue, State.setLane_frame, Four.get_map]
    exact (law.once c).filter _

theorem leaveQueue_keeps {s : State} {l : LaneId} {f : Lane → Lane} (cleared : (f (s.lane l)).statusPending = false)
    (shift : LaneShift k (s.lane l) (f (s.lane l))) : k.Keeps s (leaveQueue l (s.setLane l f)) :=
  .of_steady
    { attention := leaveQueue_attentionLaw cleared
      lanes := State.forall_lane_setLane (q := fun m => LaneShift k (s.lane m)) shift fun m _ => .refl _ _ }

theorem clearLane_keeps (l : LaneId) (s : State) : k.Keeps s (clearLane l s) := by
  unfold clearLane
  dsimp only
  refine .after (headArbitrate_keeps _) (.after (leaveQueue_keeps rfl ?_) (.after (slotsMap_keeps rfl (.laneCleared l))
    (.after (clearSurvey_keeps ..) (.after (stopRenderOf_keeps ..) (.after (clearStep_keeps ..) (detachWrites_keeps ..))))))
  exact { waits := by simp [Lane.cleared, Stage.waitsForHead]
          aligned := fun _ _ => ⟨by simp [Lane.addressed, Lane.cleared], by simp [Lane.cleared]⟩ }

theorem execClearingEnd_keeps (l : LaneId) (s : State) : k.KeptBy s (execClearingEnd l s) := by
  unfold execClearingEnd
  split
  · exact .next (.after (raiseStatus_keeps ..) (State.setLane_keeps (.of_addressed
      (had := Lane.addressed_of_course (.inr rfl) (.inr (.inl rfl))) (stage := .inr rfl))))
  · exact .refused

end Sys2Proof.Machine

/-! SUPPORT. Every law kept: reads, fetches, done words and holds. -/

namespace Sys2Proof.Machine

set_option Elab.async false

variable {k : Law}

/-! ## The course of a program: reads and done words -/

/-- The law may be used where it is to be kept. -/
theorem Law.KeptBy.of_law {s : State} {r : Result} (h : k.Holds s → k.KeptBy s r) : k.KeptBy s r :=
  fun t e => .of_law fun law => h law t e

theorem takeClass_lane_ne {l m : LaneId} (ne : m ≠ l) (c : LaneId) (s : State) : (takeClass l c s).lane m = s.lane m := by
  unfold takeClass
  split
  · rfl
  dsimp only
  split
  · exact State.lane_setLane_ne (leaveQueue l s) _ ne
  · exact State.lane_setLane_ne (leaveQueue l s) _ ne

@[simp] theorem takeClass_lane_same (l c : LaneId) (s : State) : (takeClass l c s).lane l = { s.lane l with cls := c } := by
  unfold takeClass
  split
  · next h => rw [← h]
  dsimp only
  split
  · exact State.lane_setLane_same (leaveQueue l s) l _
  · exact State.lane_setLane_same (leaveQueue l s) l _

/-- The queues after a change of class: a lane that is status pending has gone to the tail of the new class's (R16; log 24). -/
theorem takeClass_queues {l c : LaneId} {s : State} (ne : (s.lane l).cls ≠ c) (d : LaneId) :
    (takeClass l c s).port.queues.get d = (s.port.queues.get d).filter (fun m => decide (m ≠ l))
      ++ if (s.lane l).statusPending ∧ d = c then [l] else [] := by
  unfold takeClass
  rw [if_neg ne]
  dsimp only
  by_cases pending : (s.lane l).statusPending
  · rw [if_pos pending]
    simp only [joinQueue, Four.get_modify, State.lane_setLane_same, State.setLane_frame, leaveQueue, Four.get_map, pending, true_and]
    split <;> simp [*]
  · simp [pending, leaveQueue]

theorem takeClass_attentionLaw (l c : LaneId) {s : State} (law : AttentionLaw s) : AttentionLaw (takeClass l c s) := by
  by_cases same : (s.lane l).cls = c
  · rwa [takeClass, if_pos same]
  · constructor
    · intro m d
      rw [takeClass_queues same, List.mem_append, List.mem_filter, law.member m d]
      by_cases hm : m = l
      · subst hm
        by_cases pending : (s.lane m).statusPending <;> simp [pending, eq_comm]
      · rw [takeClass_lane_ne hm]; split <;> simp [hm]
    · intro d
      rw [takeClass_queues same]
      refine List.nodup_append.mpr ⟨(law.once d).filter _, by split <;> simp, fun a ha b hb => ?_⟩
      split at hb
      · rw [List.mem_singleton.mp hb]; simpa using (List.mem_filter.mp ha).2
      · cases hb

theorem takeClass_keeps (l c : LaneId) (s : State) : k.Keeps s (takeClass l c s) :=
  .of_steady
    { attention := takeClass_attentionLaw l c
      lanes := fun m => by
        by_cases hm : m = l
        · subst hm; rw [takeClass_lane_same]; exact {}
        · rw [takeClass_lane_ne hm]; exact .refl _ _ }


/-! ### The end of a program, lane by lane -/

theorem endProgram_lane_ne {l m : LaneId} (ne : m ≠ l) (c : Completion) (check : Option CheckCode) (s : State) :
    (endProgram l c check s).lane m = s.lane m := by
  unfold endProgram
  split
  · rw [raiseStatus_lane_ne ne]
    simpa [State.lane] using State.lane_setLane_ne s _ ne
  · rw [raiseStatus_lane_ne ne, State.lane_setLane_ne s _ ne]

theorem endProgram_lane_same (l : LaneId) (c : Completion) (check : Option CheckCode) (s : State) :
    (endProgram l c check s).lane l =
      ((s.lane l).programEnded (if s.surveyOpen l then .draining else .idle) c (check.getD (s.lane l).check)).raised
        { primary := true, secondary := !s.surveyOpen l, alert := check.isSome } {} := by
  unfold endProgram
  by_cases h : s.surveyOpen l
  · rw [if_pos h, raiseStatus_lane_same]; simp [h, State.lane]
  · simp [h]

/-- The end of a program leaves no address behind for the law to speak of. -/
theorem endProgram_alignmentLaw {l : LaneId} {s : State} (others : ∀ m, m ≠ l → (s.lane m).Aligned) (c : Completion)
    (check : Option CheckCode) : AlignmentLaw (endProgram l c check s) :=
  (alignmentLaw_iff _).mpr fun m => by
    by_cases hm : m = l
    · subst hm
      rw [endProgram_lane_same]
      constructor
      · by_cases h : s.surveyOpen m <;> simp [h, Lane.addressed, Lane.raised, Lane.programEnded]
      · simp [Lane.raised, Lane.programEnded]
    · rw [endProgram_lane_ne hm]; exact others m hm

theorem takeLaneBlock_keeps {l : LaneId} {s : State} (stage : (s.lane l).stage = .blockRead) : k.Keeps s (takeLaneBlock l s) := by
  unfold takeLaneBlock
  dsimp only
  generalize LaneBlock.ofBytes (s.mem.read (laneBlockAddr s.port.anchor l) 16) = b
  split
  · -- the misaligned address is gone with the end of the program, so only the laws of the other parts speak of the state between
    by_cases hk : k = .alignment
    · subst hk
      refine ⟨fun law => endProgram_alignmentLaw (fun m ne => ?_) _ _⟩
      rw [State.lane_setLane_ne _ _ ne, takeClass_lane_ne ne]
      exact (alignmentLaw_iff s).mp law m
    · exact .after (endProgram_keeps ..) (.after (State.setLane_keeps { aligned := fun e => absurd e hk }) (takeClass_keeps ..))
  · next aligned =>
    refine .after (boundary_keeps fun _ => ?_) (.after (State.setLane_keeps ?_) (takeClass_keeps ..))
    · simpa [Lane.takeBlock] using aligned
    · exact { aligned := fun _ _ => ⟨fun _ => by simpa [Lane.takeBlock] using aligned, by simp [Lane.takeBlock, stage]⟩ }

theorem blockReadFault_keeps (l : LaneId) (s : State) : k.Keeps s (blockReadFault l s) :=
  .after (endProgram_keeps ..) (State.setLane_keeps {})

theorem execLaneBlockReadEnd_keeps (l : LaneId) (read : ReadEnd) (s : State) : k.KeptBy s (execLaneBlockReadEnd l read s) := by
  unfold execLaneBlockReadEnd
  split
  · next stage =>
    split
    · exact .next (blockReadFault_keeps ..)
    · exact .next (.after (takeLaneBlock_keeps stage) (State.withStores_keeps ..))
  · dsimp only
    split
    · exact .next (State.setLane_keeps {})
    · exact .next (.after (State.withStores_keeps ..) (State.setLane_keeps {}))
  · exact .refused

/-! ### A fetched step -/

@[simp] theorem raiseIntermediate_programAddr (l m : LaneId) (r : Reasons) (s : State) :
    ((raiseIntermediate l r s).lane m).programAddr = (s.lane m).programAddr := by
  by_cases hm : m = l
  · subst hm; rw [raiseIntermediate, raiseStatus_lane_same]; rfl
  · rw [raiseIntermediate, raiseStatus_lane_ne hm]

@[simp] theorem enterRunning_programAddr (l : LaneId) (s : State) :
    ((enterRunning l s).lane l).programAddr = (s.lane l).programAddr := by
  unfold enterRunning
  split
  · dsimp only; split <;> simp
  · rfl

theorem enterRunning_keeps {l : LaneId} {s : State} (at_ : k.AddressAt s l) (stage : (s.lane l).stage = .rest) :
    k.Keeps s (enterRunning l s) := by
  have runs : k.Keeps s (s.setLane l fun x => { x with state := .running }) :=
    State.setLane_keeps (.of_address at_ (waits := by simp [stage]) (jump := by simp [stage]))
  unfold enterRunning
  split
  · dsimp only
    split
    · exact .after (raiseIntermediate_keeps ..) runs
    · exact runs
  · exact .refl _ _

theorem stepArrived_keeps {l : LaneId} {s : State} (at_ : k.AddressAt s l) (stage : (s.lane l).stage = .rest) (w : StepWord) :
    k.Keeps s (stepArrived l w s) := by
  have there : k.AddressAt (enterRunning l s) l := at_.of_programAddr (by simp)
  unfold stepArrived
  dsimp only
  split
  · exact .after (checkStep_keeps there ..) (enterRunning_keeps at_ stage)
  · exact .after (examineStep_keeps there w) (enterRunning_keeps at_ stage)

theorem fetchEnded_keeps {l : LaneId} {s : State} (at_ : k.AddressAt s l) : k.Keeps s (s.setLane l Lane.fetchEnded) :=
  State.setLane_keeps (.of_address at_ (waits := by simp [Lane.fetchEnded]) (jump := by simp [Lane.fetchEnded]))

theorem execStepFetch_keeps (l : LaneId) (read : ReadEnd) (s : State) : k.KeptBy s (execStepFetch l read s) := by
  refine .of_law fun law => ?_
  unfold execStepFetch
  split
  · next stage =>
    have at_ : k.AddressAt s l := .of_stage law stage
    split
    · exact .next (.after (endProgram_keeps ..) (fetchEnded_keeps at_))
    · dsimp only
      have there : k.AddressAt (s.withStores ‹Stores›) l := at_
      refine .next (.after (stepArrived_keeps ?_ ?_ _) (.after (fetchEnded_keeps there) (State.withStores_keeps ..)))
      · exact there.of_programAddr (by simp [Lane.fetchEnded])
      · simp [Lane.fetchEnded]
  · exact .refused

/-! ### Flow steps -/

theorem takeJump_keeps {l : LaneId} {s : State} (at_ : k.AddressAt s l) (w : StepWord) : k.Keeps s (takeJump l w s) := by
  unfold takeJump
  split
  · exact checkStep_keeps at_ ..
  · next aligned =>
    refine endStep_keeps at_ _ _ _ (jump := fun t e => ?_)
    have fits := w.operand_lt 16 4
    rw [← After.jump.inj e]
    simp only [BitVec.toNat_ofNat]
    omega

theorem execJump_keeps (l : LaneId) (s : State) : k.KeptBy s (execJump l s) := taking_keeps fun w _ at_ _ _ => takeJump_keeps at_ w

theorem execStop_keeps (l : LaneId) (s : State) : k.KeptBy s (execStop l s) := taking_keeps fun _ _ at_ _ _ => endStep_keeps at_ ..

/-! ### The end of a done-word write -/

theorem noteAfterDoneWord_keeps (d : DoneWrite) (s : State) : k.Keeps s (noteAfterDoneWord d s) := by
  unfold noteAfterDoneWord
  split
  · exact raiseIntermediate_keeps ..
  · exact .refl _ _

theorem alertFor_keeps (d : DoneWrite) (s : State) : k.Keeps s (alertFor d s) := by
  unfold alertFor
  split
  · exact alertAfterDoneWord_keeps ..
  · exact .refl _ _

theorem goOnAfter_keeps (d : DoneWrite) (s : State) : k.Keeps s (goOnAfter d s) := by
  unfold goOnAfter
  split
  · split
    · next stage => exact afterDoneWord_keeps stage
    · exact .refl _ _
  · exact unbindWhenClosed_keeps s
  · exact .refl _ _
  · exact .refl _ _
  · exact .refl _ _

theorem doneWriteEffect_keeps (d : DoneWrite) (write : WriteEnd) (s : State) : k.Keeps s (doneWriteEffect d write s) := by
  unfold doneWriteEffect
  split
  · exact .of_steady { mem := .inr fun law => DoneWrite.wf_landIn law d }
  · next left => exact .after (t := s.withStores left) (.of_steady {}) (State.withStores_keeps ..)

theorem execDoneWordWriteEnd_keeps (l : LaneId) (nth : Nat) (write : WriteEnd) (s : State) :
    k.KeptBy s (execDoneWordWriteEnd l nth write s) := by
  unfold execDoneWordWriteEnd
  split
  · exact .refused
  split
  · exact .refused
  · exact .next (.after (goOnAfter_keeps ..) <| .after (noteAfterDoneWord_keeps ..) <| .after (alertFor_keeps ..) <|
      .after (doneWriteEffect_keeps ..) (.of_steady {}))

/-! ### Holds -/

/-- A lane at its place to hold has an address. -/
theorem addressed_of_holdPlace {x : Lane} {pos : HoldPosition} (h : holdPlace x = some pos) : x.addressed := by
  unfold holdPlace at h
  split at h
  · next running _ => exact .inl running
  · next running _ => exact .inl running
  · next suspended => exact .inr (.inl suspended)
  · cases h

theorem execHoldReached_keeps (l : LaneId) (s : State) : k.KeptBy s (execHoldReached l s) := by
  refine .of_law fun law => ?_
  unfold execHoldReached
  split
  · next place =>
    split
    · exact .refused
    · exact .next (reachHold_keeps (.of_addressed law (addressed_of_holdPlace place)) _)
  · exact .refused

end Sys2Proof.Machine

/-! SUPPORT. Every law kept: the slave port. -/

namespace Sys2Proof.Machine

set_option Elab.async false

variable {k : Law}

/-! ## The slave port: orders, registers and inspection -/

theorem withResult_keeps (s : State) (c : ResultCode) : k.Keeps s (s.withResult c) := .of_steady {}

theorem refuseBusy_keeps (s : State) : k.Keeps s (refuseBusy s) := withResult_keeps s .busy

theorem refusePending_keeps (l : LaneId) (s : State) : k.Keeps s (refusePending l s) :=
  .after (raiseStatus_keeps ..) (withResult_keeps ..)

/-- An accepted order moves its lane. -/
theorem accepted_setLane_keeps {s : State} {l : LaneId} {f : Lane → Lane} (move : LaneMove k (s.lane l) (f (s.lane l))) :
    k.Keeps s ((s.withResult .accepted).setLane l f) :=
  .after (State.setLane_keeps move) (withResult_keeps ..)

/-- A SUSPENDED lane has an address. -/
theorem Law.AddressAt.of_suspended {s : State} {l : LaneId} (law : k.Holds s) (state : (s.lane l).state = .suspended) :
    k.AddressAt s l := .of_addressed law (.inr (.inl state))

/-- A HELD lane has an address. -/
theorem Law.AddressAt.of_held {s : State} {l : LaneId} (law : k.Holds s) (state : (s.lane l).state = .held) : k.AddressAt s l :=
  .of_addressed law (.inr (.inr (.inl state)))

theorem ruleStart_keeps (l : LaneId) (s : State) : k.Keeps s (ruleStart l s) := by
  unfold ruleStart
  split
  · exact refuseBusy_keeps s
  split
  · exact refusePending_keeps ..
  · exact accepted_setLane_keeps (.of_rest (none := by simp [Lane.addressed, Lane.started]) (stage := .inr rfl))

theorem resumeLater_keeps (l : LaneId) (s : State) : k.Keeps s (resumeLater l s) := by
  unfold resumeLater
  split
  · exact refuseBusy_keeps s
  · exact accepted_setLane_keeps {}

theorem resumeNow_keeps {l : LaneId} {s : State} (at_ : k.AddressAt s l) : k.Keeps s (resumeNow l s) := by
  unfold resumeNow
  split
  · exact refusePending_keeps ..
  · exact accepted_setLane_keeps (.of_address at_)

theorem ruleResume_keeps (l : LaneId) (s : State) : k.Keeps s (ruleResume l s) := .of_law fun law => by
  unfold ruleResume
  split
  · next suspended => exact resumeNow_keeps (.of_suspended law suspended)
  · exact resumeLater_keeps ..
  · unfold resumeRunning
    split
    · exact refuseBusy_keeps s
    · exact resumeLater_keeps ..
  · exact resumeLater_keeps ..
  · exact refuseBusy_keeps s
  · exact refuseBusy_keeps s
  · exact refuseBusy_keeps s

theorem haltAt_keeps (l : LaneId) (s : State) : k.Keeps s (haltAt l s) := by
  cases h : (s.lane l).stage with
  | boundary => simp only [haltAt, h]; exact endProgram_keeps ..
  | tagged w => simp only [haltAt, h]; exact endProgram_keeps ..
  | sinkWait w => simp only [haltAt, h]; exact abandonForHalt_keeps ..
  | markWait w => simp only [haltAt, h]; exact abandonForHalt_keeps ..
  | exposeWait w => simp only [haltAt, h]; exact abandonForHalt_keeps ..
  | _ => simp only [haltAt, h]; exact .refl _ _

theorem haltRunning_keeps (l : LaneId) (s : State) : k.Keeps s (haltRunning l s) := by
  unfold haltRunning
  split
  · exact refuseBusy_keeps s
  · exact .after (haltAt_keeps ..) (accepted_setLane_keeps {})

theorem ruleHalt_keeps (l : LaneId) (s : State) : k.Keeps s (ruleHalt l s) := by
  unfold ruleHalt
  split
  · exact .after (endProgram_keeps ..) (withResult_keeps ..)
  · exact .after (endProgram_keeps ..) (withResult_keeps ..)
  · exact haltRunning_keeps ..
  · exact haltRunning_keeps ..
  · exact refuseBusy_keeps s
  · exact refuseBusy_keeps s
  · exact refuseBusy_keeps s

theorem ruleTake_keeps (l : LaneId) (s : State) : k.Keeps s (ruleTake l s) := by
  unfold ruleTake
  split
  · exact .after (leaveQueue_keeps rfl {}) (withResult_keeps ..)
  · exact withResult_keeps ..

theorem ruleClear_keeps (l : LaneId) (s : State) : k.Keeps s (ruleClear l s) := by
  unfold ruleClear
  split
  · exact withResult_keeps ..
  · exact .after (clearLane_keeps ..) (withResult_keeps ..)

/-! ### HOLD, GO and STEP -/

theorem ruleHold_keeps (l : LaneId) (s : State) : k.Keeps s (ruleHold l s) := by
  unfold ruleHold
  split
  · exact accepted_setLane_keeps {}
  · exact refuseBusy_keeps s

theorem LaneMove.holdCancelled (x : Lane) : LaneMove k x x.holdCancelled where
  waits _ h := by
    by_cases b : x.stage = .boundary
    · simp [Lane.holdCancelled, b, Stage.waitsForHead] at h
    · simpa [Lane.holdCancelled, b, Lane.grantPast_waits] using h
  aligned _ := by
    by_cases b : x.stage = .boundary
    · exact .of_addressed (by simp [Lane.holdCancelled]) (fun _ => Lane.addressed_of_stage (by simp [b]) (by simp [b]))
        (by simp [Lane.holdCancelled, b])
    · refine .of_addressed (by simp [Lane.holdCancelled]) (fun had => ?_) (fun t h => ?_)
      · simp only [Lane.addressed, Lane.holdCancelled, b, if_false, Lane.grantPast] at had ⊢
        by_cases left : x.stage = .leftHold
        · exact .inr (.inr (.inr (by simp [left])))
        · simpa [left] using had
      · exact Lane.grantPast_stage_doneWrite (by simpa [Lane.holdCancelled, b] using h)
  cls := by simp [Lane.holdCancelled]
  status := by simp [Lane.holdCancelled]

theorem leaveTagged_keeps {l : LaneId} {s : State} (at_ : k.AddressAt s l) : k.Keeps s (leaveTagged l s) := by
  have runs : k.Keeps s (s.setLane l fun x => { x with state := .running, holdPosition := none, holdPass := true }) :=
    State.setLane_keeps { aligned := fun e law => ⟨fun _ => at_ e, law.2⟩ }
  unfold leaveTagged
  dsimp only
  split
  · exact .after (examineSuspend_keeps (at_.of_programAddr (by simp)) _) runs
  · exact runs

theorem goOn_keeps {l : LaneId} {s : State} (at_ : k.AddressAt s l) : k.Keeps s (goOn l s) := by
  unfold goOn
  split
  · exact State.setLane_keeps (.of_address at_)
  · exact leaveTagged_keeps at_
  · split
    · exact State.setLane_keeps (.of_address at_)
    · exact State.setLane_keeps { aligned := fun e law => ⟨fun _ => at_ e, law.2⟩ }
  · exact .refl _ _

theorem ruleGo_keeps (l : LaneId) (s : State) : k.Keeps s (ruleGo l s) := .of_law fun law => by
  unfold ruleGo
  split
  · next held =>
    have at_ : k.AddressAt s l := .of_held law held
    exact .after (evalTriggerFor_keeps ..) (.after (goOn_keeps (at_.of_programAddr rfl)) (withResult_keeps ..))
  split
  · exact accepted_setLane_keeps (.holdCancelled _)
  · exact refuseBusy_keeps s

theorem grantBeforeHold_keeps (l : LaneId) (s : State) : k.Keeps s (grantBeforeHold l s) := .of_law fun law => by
  unfold grantBeforeHold
  dsimp only
  split
  · next h => exact State.setLane_keeps (.of_address (Law.AddressAt.of_suspended law h.1))
  · exact .refl _ _

theorem stepOn_keeps {l : LaneId} {s : State} (at_ : k.AddressAt s l) : k.Keeps s (stepOn l s) := by
  unfold stepOn
  split
  · exact State.setLane_keeps (.of_address at_)
  · exact .after (grantBeforeHold_keeps ..) (leaveTagged_keeps at_)
  · exact State.setLane_keeps (.of_address at_)
  · exact .refl _ _

theorem ruleStep_keeps (l : LaneId) (s : State) : k.Keeps s (ruleStep l s) := .of_law fun law => by
  unfold ruleStep
  split
  · next held =>
    have at_ : k.AddressAt s l := .of_held law held
    exact .after (stepOn_keeps (at_.of_programAddr (by rw [State.lane_setLane_same]; rfl))) (accepted_setLane_keeps {})
  · exact refuseBusy_keeps s

/-! ### Inspection -/

theorem inspection_keeps (s : State) (q : Option Inspection) : k.Keeps s { s with port.inspection := q } := .of_steady {}

theorem ruleSnap_keeps (l : LaneId) (s : State) : k.Keeps s (ruleSnap l s) := by
  unfold ruleSnap
  split
  · exact refuseBusy_keeps s
  · exact .after (inspection_keeps ..) (accepted_setLane_keeps {})

theorem ruleDump_keeps (l : LaneId) (s : State) : k.Keeps s (ruleDump l s) := by
  unfold ruleDump
  split
  · exact refuseBusy_keeps s
  · exact .after (inspection_keeps ..) (withResult_keeps ..)

theorem inspectionWriteEnd_keeps (kind : InspectKind) (count : Nat) (write : WriteEnd) (s : State) :
    k.KeptBy s (inspectionWriteEnd kind count write s) := by
  unfold inspectionWriteEnd
  split
  · exact .refused
  split
  · exact .refused
  split
  · exact .next (.after (inspection_keeps ..) (State.store_keeps ..))
  · next left _ => exact .next (.after (t := s.withStores left) (.of_steady {}) (State.withStores_keeps ..))
  · exact .refused

/-! ### Accesses -/

theorem screened_keeps {exempt : Bool} {order : State → State} {s : State} (h : k.Keeps s (order s)) :
    k.Keeps s (screened exempt order s) := by
  unfold screened
  split
  · exact refuseBusy_keeps s
  · split
    · exact h
    · exact withResult_keeps ..
  · exact h

theorem writeAnchor_keeps (v : Word) (s : State) : k.Keeps s (writeAnchor v s) := by
  unfold writeAnchor
  split
  · exact .of_steady {}
  · exact refuseBusy_keeps s

theorem writeAttention_keeps (v : Word) (s : State) : k.Keeps s (writeAttention v s) := .of_steady {}

theorem readAttention_keeps (enables : BitVec 4) (s : State) : k.Keeps s (readAttention enables s) := .of_steady {}

theorem runAccess_keeps (c : Instr) (s : State) : k.Keeps s (runAccess c s) := by
  unfold runAccess
  split
  · exact writeAnchor_keeps ..
  · exact writeAttention_keeps ..
  · exact readAttention_keeps ..
  · exact screened_keeps (ruleStart_keeps ..)
  · exact screened_keeps (ruleResume_keeps ..)
  · exact screened_keeps (ruleHalt_keeps ..)
  · exact screened_keeps (ruleClear_keeps ..)
  · exact screened_keeps (ruleTake_keeps ..)
  · exact screened_keeps (ruleHold_keeps ..)
  · exact screened_keeps (ruleStep_keeps ..)
  · exact screened_keeps (ruleGo_keeps ..)
  · exact screened_keeps (ruleSnap_keeps ..)
  · exact screened_keeps (ruleDump_keeps ..)
  · exact withResult_keeps ..
  · exact .refl _ _

theorem held_keeps (cs : List Instr) (s : State) : k.Keeps s { s with port.held := cs } := .of_steady {}

theorem portAccess_keeps (c : Instr) (s : State) : k.Keeps s (portAccess c s) := by
  unfold portAccess
  split
  · exact runAccess_keeps c s
  · exact held_keeps ..

theorem runHeld_keeps (cs : List Instr) (s : State) : k.Keeps s (runHeld cs s) := by
  induction cs generalizing s with
  | nil => exact .refl _ _
  | cons c cs ih =>
    unfold runHeld
    split
    · exact .after (ih _) (runAccess_keeps c s)
    · exact held_keeps ..

theorem releasePort_keeps (s : State) : k.Keeps s (releasePort s) := .after (runHeld_keeps ..) (held_keeps ..)

theorem statusWriteEffect_keeps (q : StatusWrite) (write : WriteEnd) (s : State) : k.Keeps s (statusWriteEffect q write s) := by
  unfold statusWriteEffect
  split
  · exact State.store_keeps ..
  · next left => exact .after (t := s.withStores left) (.of_steady {}) (State.withStores_keeps ..)

theorem execStatusRecordWriteEnd_keeps (l : LaneId) (write : WriteEnd) (s : State) :
    k.KeptBy s (execStatusRecordWriteEnd l write s) := by
  unfold execStatusRecordWriteEnd
  split
  · exact .refused
  split
  · exact .refused
  · exact .next (.after (releasePort_keeps _) (.after (statusWriteEffect_keeps ..) (.of_steady {})))

end Sys2Proof.Machine

/-! SUPPORT. Every law kept: patch steps, render contexts, resets and the settings load; then every command. -/

namespace Sys2Proof.Machine

set_option Elab.async false

variable {k : Law}

/-! ## The patch steps -/

/-- What EXPOSE's tests let through (R164). -/
theorem exposeCheck_eq_none {s : State} {l : LaneId} {w : StepWord} (h : exposeCheck s l w = none) :
    keptClaims s + 3 ≤ s.intake.slotCount := by
  unfold exposeCheck at h
  split at h
  · cases h
  split at h
  · cases h
  split at h
  · cases h
  split at h
  · cases h
  · next room => simpa [keepLimitReached] using room

/-- A predicate of the lanes that one lane more meets counts one more. -/
theorem countP_allLanes_le_succ {p q : LaneId → Bool} {l : LaneId} (le : ∀ m, m ≠ l → q m = true → p m = true) :
    allLanes.countP q ≤ allLanes.countP p + 1 := by
  have here : allLanes.countP q ≤ allLanes.countP (fun m => p m || decide (m = l)) :=
    List.countP_mono_left fun m _ hm => by
      by_cases e : m = l
      · simp [e]
      · simp [le m e hm]
  have one : ∀ m : LaneId, allLanes.countP (fun n => decide (n = m)) = 1 := by decide
  have or_le : ∀ xs : List LaneId,
      xs.countP (fun m => p m || decide (m = l)) ≤ xs.countP p + xs.countP (fun m => decide (m = l)) := by
    intro xs
    induction xs with
    | nil => simp
    | cons x xs ih => by_cases hp : p x <;> by_cases hx : x = l <;> simp [List.countP_cons, hp, hx] <;> omega
  have := or_le allLanes
  have := one l
  omega

/-- A lane joins the head waiters, of which the kept claims have room for one more (R82). -/
theorem joinsWaiters_keeps {l : LaneId} {s : State} (at_ : k.AddressAt s l) (room : keptClaims s + 3 ≤ s.intake.slotCount)
    (w : StepWord) : k.Keeps s (s.setLane l fun x => { x with stage := .exposeWait w }) := by
  by_cases hk : k = .slots
  · subst hk
    refine ⟨fun law => (SlotsMoved.slotLaw (s := s) ⟨fun _ => (SlotMove.refl _).toSlotShift, rfl, fun _ _ => id⟩ (fun _ => ?_) law)⟩
    have waiters : allLanes.countP (exposeWaiting (s.setLane l fun x => { x with stage := .exposeWait w }))
        ≤ allLanes.countP (exposeWaiting s) + 1 :=
      countP_allLanes_le_succ (l := l) fun m ne waits => by
        rwa [exposeWaiting_eq, State.lane_setLane_ne _ _ ne] at waits
    simp only [keptClaims_eq, State.setLane_frame] at room ⊢
    omega
  · exact State.setLane_keeps { waits := fun e => absurd e hk, aligned := fun e _ => ⟨fun _ => at_ e, by simp⟩ }

theorem takeExpose_keeps {l : LaneId} {s : State} (at_ : k.AddressAt s l) (w : StepWord) : k.Keeps s (takeExpose l w s) := by
  unfold takeExpose
  split
  · exact checkStep_keeps at_ ..
  next passed =>
  unfold joinWaiters
  split
  · exact endStep_keeps at_ ..
  split
  · exact abandonForHalt_keeps ..
  · exact .after (headArbitrate_keeps _) (joinsWaiters_keeps at_ (exposeCheck_eq_none passed) w)

/-- KEEP binds a survey frame; the kept claims have room for it (R82, R167). -/
theorem keepSlot_keeps {s : State} {i : Nat} (keepable : (s.slot i).keepable = true) (room : keptClaims s + 3 ≤ s.intake.slotCount)
    (b : Option (LaneId × Tag)) : k.Keeps s (s.setSlot i fun x => { x with state := .kept, binding := b }) := by
  refine .of_steady { slots := fun _ waits law => (State.slotsMoved_setSlot ?_).slotLaw (fun _ => ?_) law }
  · have state : (s.slot i).state = .rendering ∨ (s.slot i).state = .done := by
      simpa [Slot.keepable] using (Bool.and_eq_true_iff.mp keepable).2
    exact ⟨by rcases state with e | e <;> simp [e], .inl rfl, fun _ _ => rfl, by rcases state with e | e <;> simp [e]⟩
  · have waiters := countP_exposeWaiting_le waits
    have slots := countP_updateAt_le_succ Slot.claimed (fun x => { x with state := .kept, binding := b }) i s.slots
    simp only [keptClaims_eq, State.setSlot_slots, State.setSlot_frame] at room ⊢
    omega

theorem takeKeep_keeps {l : LaneId} {s : State} (at_ : k.AddressAt s l) (w : StepWord) : k.Keeps s (takeKeep l w s) := by
  unfold takeKeep
  split
  · exact checkStep_keeps at_ ..
  next candidate =>
  split
  · exact checkStep_keeps at_ ..
  split
  · exact checkStep_keeps at_ ..
  next room =>
  unfold bindSlot
  split
  · exact .refl _ _
  · refine .after (endStep_keeps ?_ ..)
      (keepSlot_keeps (keepCandidate_keepable candidate).2 (by simpa [keepLimitReached] using room) _)
    exact at_

theorem takeRelease_keeps {l : LaneId} {s : State} (at_ : k.AddressAt s l) (w : StepWord) : k.Keeps s (takeRelease l w s) := by
  unfold takeRelease
  split
  · exact checkStep_keeps at_ ..
  next i found =>
  have ended : k.Keeps s (endStep l w .done (releaseResults (s.slot i)) .advance (s.setSlot i Slot.unkeep)) := by
    refine .after (endStep_keeps ?_ ..) (State.setSlot_keeps fun law => .unkeep (law.bound i (by simp [(boundSlot_bound found).2])))
    exact at_
  unfold releaseSlot
  dsimp only
  split
  · exact ended
  · exact .after (headArbitrate_keeps _) ended

/-- A patch request joins the list. -/
theorem patchRequest_keeps (l : LaneId) (o : PatchOps) (s : State) : k.Keeps s { s with requests := s.requests ++ [.patch l o] } :=
  .of_steady { slots := fun _ => SlotLaw.of_same rfl rfl (by simp) rfl }

theorem takeRender_keeps {l : LaneId} {s : State} (at_ : k.AddressAt s l) (w : StepWord) : k.Keeps s (takeRender l w s) := by
  unfold takeRender
  split
  · exact checkStep_keeps at_ ..
  · exact .after (patchRequest_keeps ..) (State.setLane_keeps (.of_address at_))

theorem execExpose_keeps (l : LaneId) (s : State) : k.KeptBy s (execExpose l s) := taking_keeps fun w _ at_ _ _ => takeExpose_keeps at_ w

theorem execKeep_keeps (l : LaneId) (s : State) : k.KeptBy s (execKeep l s) := taking_keeps fun w _ at_ _ _ => takeKeep_keeps at_ w

theorem execRelease_keeps (l : LaneId) (s : State) : k.KeptBy s (execRelease l s) :=
  taking_keeps fun w _ at_ _ _ => takeRelease_keeps at_ w

theorem execRender_keeps (l : LaneId) (s : State) : k.KeptBy s (execRender l s) := taking_keeps fun w _ at_ _ _ => takeRender_keeps at_ w

/-! ## Render contexts -/

theorem startTableRead_keeps {l : LaneId} {s : State} (at_ : k.AddressAt s l) (needsGeometry : Bool) (len : Nat) (w : StepWord) :
    k.Keeps s (startTableRead l needsGeometry len w s) := by
  unfold startTableRead
  split
  · exact checkStep_keeps at_ ..
  split
  · exact checkStep_keeps at_ ..
  split
  · exact checkStep_keeps at_ ..
  · exact State.setLane_keeps (.of_address at_)

/-- A step that changes its lane's context ends. -/
theorem contextStep_keeps {l : LaneId} {s : State} (at_ : k.AddressAt s l) (f : Context → Context) (w : StepWord)
    (results : List Byte) : k.Keeps s (endStep l w .done results .advance (setContext l f s)) :=
  .after (endStep_keeps (at_.of_programAddr (by simp [setContext])) ..) (State.setLane_keeps {})

theorem setPose_keeps {l : LaneId} {s : State} (at_ : k.AddressAt s l) (w : StepWord) : k.Keeps s (setPose l w s) := by
  unfold setPose
  dsimp only
  split
  · exact contextStep_keeps at_ ..
  · exact checkStep_keeps at_ ..

theorem finishTableLoad_keeps {l : LaneId} {s : State} (at_ : k.AddressAt s l) (w : StepWord) (len : Nat) :
    k.Keeps s (finishTableLoad l w len s) := by
  unfold finishTableLoad
  dsimp only
  split
  · exact checkStep_keeps at_ ..
  · exact contextStep_keeps at_ ..

theorem execTableReadEnd_keeps (l : LaneId) (read : ReadEnd) (s : State) : k.KeptBy s (execTableReadEnd l read s) := by
  refine .of_law fun law => ?_
  unfold execTableReadEnd
  split
  · next stage =>
    have at_ : k.AddressAt s l := .of_stage law stage
    split
    · exact .next (checkStep_keeps at_ ..)
    · next stores =>
      have there : k.AddressAt (s.withStores stores) l := at_
      exact .next (.after (finishTableLoad_keeps there ..) (State.withStores_keeps ..))
  · dsimp only
    split
    · exact .next (State.setLane_keeps {})
    · exact .next (.after (State.withStores_keeps ..) (State.setLane_keeps {}))
  · exact .refused

theorem execTable_keeps (l : LaneId) (code : Byte) (needsGeometry : Bool) (len : State → Nat) (s : State) :
    k.KeptBy s (taking l code s fun w t => startTableRead l needsGeometry (len t) w t) :=
  taking_keeps fun w _ at_ _ _ => startTableRead_keeps at_ _ _ w

theorem execPose_keeps (l : LaneId) (s : State) : k.KeptBy s (execPose l s) := taking_keeps fun w _ at_ _ _ => setPose_keeps at_ w

/-! ## Resets and the settings load -/

theorem slot_reset (i : Nat) : State.reset.slot i = Slot.empty := by
  simp only [State.slot, State.reset, List.getD_eq_getElem?_getD, List.getElem?_replicate]
  split <;> rfl

theorem SlotLaw.of_empty {s : State} (slots : ∀ i, s.slot i = Slot.empty) (inFlight : s.exposure.inFlight = none)
    (requests : s.requests = []) (claims : keptClaims s + 2 ≤ s.intake.slotCount) : SlotLaw s where
  filling i := by simp [slots, inFlight, Slot.empty]
  recorded i := by simp [slots, Slot.empty]
  bound i := by simp [slots, Slot.empty]
  requested l i := by simp [requests]
  claims := claims

theorem lane_reset (l : LaneId) : State.reset.lane l = Lane.reset := by
  match l with
  | 0 | 1 | 2 | 3 => rfl

theorem queues_reset (c : LaneId) : State.reset.port.queues.get c = [] := by
  match c with
  | 0 | 1 | 2 | 3 => rfl

theorem reset_odometerLaw (pins : PinLevels) : OdometerLaw (Odometer.reset pins) :=
  ⟨.inl rfl, by simp [Odometer.reset], by simp [Odometer.reset], by simp [Odometer.reset], by simp [Odometer.reset, countFits]⟩

theorem reset_attentionLaw : AttentionLaw State.reset where
  member l c := by rw [queues_reset, lane_reset]; simp [Lane.reset]
  once c := by rw [queues_reset]; exact List.nodup_nil

theorem reset_slotLaw : SlotLaw State.reset := .of_empty slot_reset rfl rfl (by decide)

theorem reset_alignmentLaw : AlignmentLaw State.reset :=
  (alignmentLaw_iff _).mpr fun l => by
    rw [lane_reset]; exact ⟨by simp [Lane.addressed, Lane.reset], by simp [Lane.reset]⟩

theorem reset_mapLaw : MapLaw State.reset.map := WallMap.unbound_mapLaw State.reset.map

theorem reset_triggerHeld (mark : Option Int) (pitch : Nat) : TriggerHeld mark pitch State.reset := .of_disarmed rfl rfl rfl

theorem reset_supplyLaw : SupplyLaw State.reset.supply := ⟨by decide, fun _ => rfl⟩

/-- The state after a reset obeys every law, but for the odometer that it keeps and the memory and the queue that are not of the
part. -/
theorem afterReset_keeps {s t : State} (port : t.port = State.reset.port) (lanes : t.lanes = State.reset.lanes)
    (odo : OdometerLaw s.odo → OdometerLaw t.odo) (supply : t.supply = State.reset.supply)
    (armed : t.trigger.armed = none ∧ t.trigger.hw = none ∧ t.trigger.pending = false)
    (exposure : t.exposure = State.reset.exposure) (intake : t.intake = State.reset.intake) (slots : t.slots = State.reset.slots)
    (requests : t.requests = []) (map : t.map = State.reset.map) (mem : t.mem = s.mem) (pending : t.pending = s.pending) :
    k.Keeps s t := by
  constructor
  intro law
  have lane (l : LaneId) : t.lane l = State.reset.lane l := by rw [State.lane, lanes]; rfl
  have slot (i : Nat) : t.slot i = Slot.empty := by rw [State.slot, slots]; exact slot_reset i
  cases k with
  | memory => simpa only [Law.Holds, MemoryLaw, mem] using law
  | odometer => exact odo law
  | supply => simpa only [Law.Holds, supply] using reset_supplyLaw
  | attention => exact reset_attentionLaw.of_same (by rw [port]) fun l => by rw [lane l]; exact ⟨rfl, rfl⟩
  | slots =>
    refine .of_empty slot (exposure ▸ rfl) requests ?_
    have waits : exposeWaiting t = exposeWaiting State.reset := funext fun l => by rw [exposeWaiting_eq, lane]; rfl
    rw [keptClaims_eq, waits, slots, intake]
    decide
  | alignment => exact (alignmentLaw_iff t).mpr fun l => by rw [lane]; exact (alignmentLaw_iff _).mp reset_alignmentLaw l
  | map => simpa only [Law.Holds, map] using reset_mapLaw
  | trigger mark pitch => exact .of_disarmed armed.1 armed.2.1 armed.2.2
  | queue waiting => exact pending.trans law

theorem execPowerOn_keeps (pins : PinLevels) (s : State) : k.KeptBy s (execPowerOn pins s) :=
  .next (afterReset_keeps rfl rfl (fun _ => reset_odometerLaw pins) rfl ⟨rfl, rfl, rfl⟩ rfl rfl rfl rfl rfl rfl rfl)

theorem execBoardReset_keeps (left : Stores) (s : State) : k.KeptBy s (execBoardReset left s) :=
  .next (.after (t := s.withStores left) (afterReset_keeps rfl rfl (fun law => ⟨law.follows, law.first, law.second, law.slip, law.fits⟩) rfl
    ⟨rfl, rfl, rfl⟩ rfl rfl rfl rfl rfl rfl rfl) (State.withStores_keeps ..))

/-- Settings are taken exactly when every test of the table passes (R5). -/
theorem Settings.error_eq_zero_iff (c : Settings) : c.error = 0 ↔ ∀ t ∈ c.tests, t.1 = true := by
  unfold Settings.error
  constructor
  · intro h
    split at h
    · next t found =>
      have named : ∀ t ∈ c.tests, t.2 ≠ 0 := by simp [Settings.tests]
      exact absurd h (named t (List.mem_of_find?_eq_some found))
    · next none => simpa using List.find?_eq_none.mp none
  · intro h
    rw [List.find?_eq_none.mpr (by simpa using h)]

theorem withLoadResult_keeps (s : State) (c : ConfigState) (code : Nat) : k.Keeps s (s.withLoadResult c code) := .of_steady {}

@[simp] theorem takeSettings_lane (c : Settings) (s : State) (l : LaneId) : (takeSettings c s).lane l = (s.lane l).contextDropped := by
  simp [takeSettings, State.lane, Four.get_map]

/-- The settings come while the frame path is at rest (R4, R6). -/
theorem takeSettings_keeps {c : Settings} {s : State} (quiet : k = .slots → QuietForLoad s) (inRange : c.error = 0) :
    k.Keeps s (takeSettings c s) := by
  refine .of_steady
    { attention := AttentionLaw.of_same (by simp) fun l => by simp [Lane.contextDropped]
      lanes := fun l => by rw [takeSettings_lane]; exact {}
      supply := fun law => ⟨law.count, law.normal⟩
      slots := fun hk _ _ => ?_ }
  obtain ⟨inFlight, still, requests⟩ := quiet hk
  refine .of_empty (fun i => ?_) inFlight requests ?_
  · simp only [State.slot, takeSettings, List.getD_eq_getElem?_getD, List.getElem?_replicate]; split <;> rfl
  · have room : 3 ≤ c.slotCount ∧ c.slotCount ≤ 8 := by
      simpa using (c.error_eq_zero_iff.mp inRange) _ (List.mem_cons_self ..)
    have noSlot : (takeSettings c s).slots.countP Slot.claimed = 0 := by
      simp [takeSettings, List.countP_replicate, Slot.claimed, Slot.empty]
    have noWaiter : allLanes.countP (exposeWaiting (takeSettings c s)) = 0 := by
      refine List.countP_eq_zero.mpr fun l _ => ?_
      rw [exposeWaiting_eq, takeSettings_lane]
      simpa [exposeWaiting_eq, Lane.contextDropped] using still l
    rw [keptClaims_eq, noSlot, noWaiter, show (takeSettings c s).intake.slotCount = c.slotCount from rfl]
    omega

theorem execSettingsLoadEnd_keeps {s : State} (quiet : k = .slots → QuietForLoad s) (read : ReadEnd) (timers : List (Edge × Nat)) :
    k.KeptBy s (execSettingsLoadEnd read timers s) := by
  unfold execSettingsLoadEnd
  split
  · split
    · exact .next (withLoadResult_keeps ..)
    · next stores =>
      refine .next (.after (t := s.withStores stores) ?_ (State.withStores_keeps ..))
      unfold checkSettings
      dsimp only
      split
      · next inRange =>
        exact .after (offerPosition_keeps fun law => loadOdometer_odometerLaw law _ _)
          (.after (takeSettings_keeps quiet inRange) (withLoadResult_keeps ..))
      · exact withLoadResult_keeps ..
  · exact .refused

/-! ## Every command -/

/-- What a law asks of a command: for the laws of the slots, a settings load comes while the frame path is at rest; and a survey that
begins has no mark of an earlier one to remember. -/
structure Law.Admits (k : Law) (c : Instr) (s : State) : Prop where
  load : ∀ read timers, c = .settingsLoadEnd read timers → k = .slots → QuietForLoad s
  begins : ∀ l, c = .beginSurvey l → s.map.lane = none → k.Unmarked

theorem exec_keeps {c : Instr} {s : State} (admits : k.Admits c s) : k.KeptBy s (exec c s) := by
  cases c with
  | powerOn pins => exact execPowerOn_keeps pins s
  | boardReset left => exact execBoardReset_keeps left s
  | registerWriteIgnored offset enables value => exact .next (portAccess_keeps ..)
  | anchor value => exact .next (portAccess_keeps ..)
  | settingsLoadEnd read timers => exact execSettingsLoadEnd_keeps (admits.load read timers rfl) read timers
  | attentionWrite value => exact .next (portAccess_keeps ..)
  | attentionRead enables => exact .next (portAccess_keeps ..)
  | start l => exact .next (portAccess_keeps ..)
  | resume l => exact .next (portAccess_keeps ..)
  | halt l => exact .next (portAccess_keeps ..)
  | clear l => exact .next (portAccess_keeps ..)
  | take l => exact .next (portAccess_keeps ..)
  | hold l => exact .next (portAccess_keeps ..)
  | stepOrder l => exact .next (portAccess_keeps ..)
  | go l => exact .next (portAccess_keeps ..)
  | snap l => exact .next (portAccess_keeps ..)
  | dump l => exact .next (portAccess_keeps ..)
  | snapWriteEnd count write => exact inspectionWriteEnd_keeps _ count write s
  | dumpWriteEnd count write => exact inspectionWriteEnd_keeps _ count write s
  | statusRecordWriteEnd l write => exact execStatusRecordWriteEnd_keeps l write s
  | laneBlockReadEnd l read => exact execLaneBlockReadEnd_keeps l read s
  | stepFetch l read => exact execStepFetch_keeps l read s
  | geometry l => exact execTable_keeps l _ _ (fun _ => _) s
  | lens l => exact execTable_keeps l _ _ (fun _ => _) s
  | shade l => exact execTable_keeps l _ _ (fun t => 2 * (t.lane l).context.geometry.width) s
  | tone l => exact execTable_keeps l _ _ (fun _ => _) s
  | glare l => exact execTable_keeps l _ _ (fun _ => _) s
  | tableReadEnd l read => exact execTableReadEnd_keeps l read s
  | pose l => exact execPose_keeps l s
  | beginSurvey l => exact execBeginSurvey_keeps l (admits.begins l rfl)
  | sink l => exact execSink_keeps l s
  | mark l => exact execMark_keeps l s
  | endSurvey l => exact execEndSurvey_keeps l s
  | expose l => exact execExpose_keeps l s
  | keep l => exact execKeep_keeps l s
  | release l => exact execRelease_keeps l s
  | render l => exact execRender_keeps l s
  | jump l => exact execJump_keeps l s
  | stop l => exact execStop_keeps l s
  | doneWordWriteEnd l nth write => exact execDoneWordWriteEnd_keeps l nth write s
  | clearingEnd l => exact execClearingEnd_keeps l s
  | holdReached l => exact execHoldReached_keeps l s
  | inputPinChange input level => exact execInputPinChange_keeps input level s
  | acceptedEdge edge => exact execAcceptedEdge_keeps edge s
  | strobeEnd millivolts => exact execStrobeEnd_keeps millivolts s
  | supplyTick millivolts => exact execSupplyTick_keeps millivolts s
  | headFrameStart => exact .next (takeHeadBytes_keeps ..)
  | headLine bytes => exact .next (takeHeadBytes_keeps ..)
  | headFrameEnd outstanding => exact .next (takeHeadBytes_keeps ..)
  | unknownByte byte => exact .next (takeHeadBytes_keeps ..)
  | readoutTimeout => exact execReadoutTimeout_keeps s
  | slotWriteFault left => exact execSlotWriteFault_keeps left s
  | frameComplete => exact execFrameComplete_keeps s
  | renderGrant stores => exact execRenderGrant_keeps stores s
  | columnTableEnd => exact execColumnTableEnd_keeps s
  | rowFinished reads => exact execRowFinished_keeps reads s
  | sourceFault => exact execSourceFault_keeps s
  | rowCommitEnd l stores => exact execRowCommitEnd_keeps l stores s
  | drainBegin stores => exact execDrainBegin_keeps stores s
  | mapFault l access left => exact execMapFault_keeps l access left s
  | patchRowWriteEnd write => exact execPatchRowWriteEnd_keeps write s
  | invalidOrder laneField code => exact .next (portAccess_keeps ..)
  | slotLineWritesEnded => exact execSlotLineWritesEnded_keeps s

end Sys2Proof.Machine

/-! SUPPORT. The statements about the laws that every step keeps. -/

namespace Sys2Proof.Machine

set_option Elab.async false

/-! ## Steps -/

theorem Law.Admits.of_plain {k : Law} (slots : k ≠ .slots) (unmarked : k.Unmarked) (c : Instr) (s : State) : k.Admits c s :=
  ⟨fun _ _ _ e => absurd e slots, fun _ _ _ => unmarked⟩

/-- A law that admits the command in front is kept by the step that runs it. -/
theorem step_holds {k : Law} {s t : State} (admits : ∀ c rest, s.pending = c :: rest → k.Admits c { s with pending := rest })
    (dequeues : ∀ rest, k.Holds s → k.Holds { s with pending := rest }) (law : k.Holds s) (e : step s = .next t) : k.Holds t := by
  unfold step at e
  split at e
  · injection e with e; exact e ▸ law
  · next c rest front => exact (exec_keeps (admits c rest front) t e).holds (dequeues rest law)

/-- The queue of commands is no other law's. -/
theorem Law.Holds.dequeue {k : Law} {s : State} (rest : List Instr) (h : k.Holds s) (queue : ∀ q, k ≠ .queue q := by simp) :
    k.Holds { s with pending := rest } := by
  cases k with
  | queue q => exact absurd rfl (queue q)
  | memory => exact h
  | odometer => exact h
  | supply => exact h
  | attention => exact ⟨h.member, h.once⟩
  | slots => exact ⟨h.filling, h.recorded, h.bound, h.requested, h.claims⟩
  | alignment => exact ⟨h.address, h.target⟩
  | map => exact h
  | trigger mark pitch => exact ⟨⟨h.law.armed, h.law.disarmed⟩, h.since⟩

theorem step_holds_of_plain {k : Law} {s t : State} (law : k.Holds s) (e : step s = .next t) (slots : k ≠ .slots := by simp)
    (unmarked : k.Unmarked := by simp [Law.Unmarked]) (queue : ∀ q, k ≠ .queue q := by simp) : k.Holds t :=
  step_holds (fun c _ _ => .of_plain slots unmarked c _) (fun rest h => h.dequeue rest queue) law e



/-- Settles O2, as the law `queue` of the traversal of all commands. -/
theorem commandsLeaveQueue : Obligations.CommandsLeaveQueue := by
  intro c s t e
  have kept := exec_keeps (.of_plain (k := .queue s.pending) (by simp) (by simp [Law.Unmarked]) c s) t e
  exact kept.holds rfl

/-- Settles O55. -/
theorem memoryLawKept : Obligations.MemoryLawKept := fun _ _ law e => step_holds_of_plain (k := .memory) law e

/-- Settles O56. -/
theorem odometerAndSupplyLawsKept : Obligations.OdometerAndSupplyLawsKept := fun _ _ odo supply e =>
  ⟨step_holds_of_plain (k := .odometer) odo e, step_holds_of_plain (k := .supply) supply e⟩

/-- Settles O57. -/
theorem attentionLawKept : Obligations.AttentionLawKept := fun _ _ law e => step_holds_of_plain (k := .attention) law e

/-- Settles O58. -/
theorem slotLawKept : Obligations.SlotLawKept := by
  intro s t law quiet e
  refine step_holds (k := .slots) (fun c rest front => ⟨fun read timers load _ => ?_, fun _ _ _ => nofun⟩)
    (fun rest h => h.dequeue rest) law e
  exact quiet read timers rest (load ▸ front)

/-- Settles O59. -/
theorem alignmentLawKept : Obligations.AlignmentLawKept := fun _ _ law e => step_holds_of_plain (k := .alignment) law e

/-- Settles O60; the mark of an armed trigger is remembered, since BEGIN, which alone would forget it, finds the map bound. -/
theorem mapAndTriggerLawsKept : Obligations.MapAndTriggerLawsKept := by
  intro s t map law e
  have held : TriggerHeld s.trigger.hw s.trigger.pitch t := by
    refine step_holds (k := .trigger s.trigger.hw s.trigger.pitch)
      (fun _ _ _ => ⟨fun _ _ _ => nofun, fun _ _ unbound h pitch marked => ?_⟩) (fun rest h => h.dequeue rest)
      ⟨law, fun h marked => .inr ⟨rfl, h, marked, .inl rfl⟩⟩ e
    have mark : s.trigger.hw = some h := (Law.trigger.inj marked).1
    cases armed : s.trigger.armed with
    | none => simp [(law.disarmed armed).1] at mark
    | some l =>
      have bound := (law.armed l armed).1
      simp [show s.map.lane = none from unbound] at bound
  refine ⟨step_holds_of_plain (k := .map) map e, held.law, fun h m before after => ?_⟩
  rcases held.since h before with off | ⟨-, n, hw, near⟩
  · simp [(held.law.disarmed off).1] at after
  · obtain rfl : n = m := by simpa [hw] using after
    exact near

/-- Settles O5. -/
theorem resetMeetsLaws : Obligations.ResetMeetsLaws :=
  ⟨by decide, reset_odometerLaw lowPins, reset_attentionLaw, reset_slotLaw, reset_alignmentLaw, (reset_triggerHeld none 0).law,
    reset_mapLaw, reset_supplyLaw⟩

/-- Settles O1. -/
theorem stepRunsFront : Obligations.StepRunsFront :=
  ⟨fun _ _ _ => rfl, fun s empty => by rw [step, empty]⟩

end Sys2Proof.Machine

/-! SUPPORT. The orders that run a lane (R7 to R9, R178, R183, R184), and the statements about them. -/

namespace Sys2Proof.Machine

set_option Elab.async false

/-! ## States of the statements in the model's terms -/

theorem State.setLane_eq_withLane (s : State) (l : LaneId) (f : Lane → Lane) : s.setLane l f = s.withLane l (f (s.lane l)) := rfl

theorem State.withResult_eq_answered (s : State) (c : ResultCode) : s.withResult c = s.answered c := rfl

@[simp] theorem State.withLane_lane_same (s : State) (l : LaneId) (x : Lane) : (s.withLane l x).lane l = x := Four.get_set_same ..

@[simp] theorem State.answered_lane (s : State) (c : ResultCode) (l : LaneId) : (s.answered c).lane l = s.lane l := rfl

@[simp] theorem State.withLane_withLane (s : State) (l : LaneId) (x y : Lane) : (s.withLane l x).withLane l y = s.withLane l y := by
  simp [State.withLane]

theorem State.setLane_withLane (s : State) (l : LaneId) (x : Lane) (f : Lane → Lane) : (s.withLane l x).setLane l f = s.withLane l (f x) := by
  rw [State.setLane_eq_withLane, State.withLane_withLane, State.withLane_lane_same]

theorem endStep_eq_ended (l : LaneId) (w : StepWord) (code : DoneCode) (results : List Byte) (after : After) (s : State) :
    endStep l w code results after s = s.ended l w code results after := by
  simp [endStep, issueDone, State.ended, State.atStage, State.setLane_eq_withLane]
  rfl

theorem checkStep_eq_checked (l : LaneId) (w : StepWord) (c : CheckCode) (s : State) : checkStep l w c s = s.checked l w c :=
  endStep_eq_ended ..

theorem setLane_stage_eq_atStage (s : State) (l : LaneId) (stage : Stage) :
    s.setLane l (fun x => { x with stage := stage }) = s.atStage l stage := rfl

/-! ## The orders of a configured part whose port answers (R2) -/

theorem screened_of_configured {s : State} (configured : s.port.config = .configured) (exempt : Bool) (order : State → State) :
    screened exempt order s = order s := by
  simp [screened, configured]

theorem exec_start_of_run {s : State} (run : OrdersRun s) (l : LaneId) : exec (.start l) s = .next (ruleStart l s) := by
  rw [← screened_of_configured run.2 false (ruleStart l)]
  exact congrArg Host.Outcome.next (portAccess_of_portFree run.1 (.start l))

theorem exec_resume_of_run {s : State} (run : OrdersRun s) (l : LaneId) : exec (.resume l) s = .next (ruleResume l s) := by
  rw [← screened_of_configured run.2 false (ruleResume l)]
  exact congrArg Host.Outcome.next (portAccess_of_portFree run.1 (.resume l))

theorem exec_halt_of_run {s : State} (run : OrdersRun s) (l : LaneId) : exec (.halt l) s = .next (ruleHalt l s) := by
  rw [← screened_of_configured run.2 false (ruleHalt l)]
  exact congrArg Host.Outcome.next (portAccess_of_portFree run.1 (.halt l))

theorem exec_clear_of_run {s : State} (run : OrdersRun s) (l : LaneId) : exec (.clear l) s = .next (ruleClear l s) := by
  rw [← screened_of_configured run.2 false (ruleClear l)]
  exact congrArg Host.Outcome.next (portAccess_of_portFree run.1 (.clear l))

theorem exec_hold_of_run {s : State} (run : OrdersRun s) (l : LaneId) : exec (.hold l) s = .next (ruleHold l s) := by
  rw [← screened_of_configured run.2 false (ruleHold l)]
  exact congrArg Host.Outcome.next (portAccess_of_portFree run.1 (.hold l))

theorem exec_stepOrder_of_run {s : State} (run : OrdersRun s) (l : LaneId) : exec (.stepOrder l) s = .next (ruleStep l s) := by
  rw [← screened_of_configured run.2 false (ruleStep l)]
  exact congrArg Host.Outcome.next (portAccess_of_portFree run.1 (.stepOrder l))

theorem exec_go_of_run {s : State} (run : OrdersRun s) (l : LaneId) : exec (.go l) s = .next (ruleGo l s) := by
  rw [← screened_of_configured run.2 false (ruleGo l)]
  exact congrArg Host.Outcome.next (portAccess_of_portFree run.1 (.go l))

/-! ## START and RESUME (R7, R8) -/

section
variable {l : LaneId} {s : State}

theorem ruleStart_of_idle (idle : (s.lane l).state = .idle) (none : (s.lane l).statusPending = false) :
    ruleStart l s = (s.answered .accepted).withLane l (s.lane l).started := by
  simp [ruleStart, idle, none]; rfl

theorem ruleStart_of_pending (idle : (s.lane l).state = .idle) (pending : (s.lane l).statusPending = true) :
    ruleStart l s = raiseStatus l { pending := true } {} (s.answered .pending) := by
  simp [ruleStart, idle, pending]; rfl

theorem ruleStart_of_busy (busy : (s.lane l).state ≠ .idle) : ruleStart l s = s.answered .busy := if_pos busy

theorem resumeLater_of_fresh (fresh : (s.lane l).resumePending = false) :
    resumeLater l s = (s.answered .accepted).withLane l { s.lane l with resumePending := true } := by
  simp [resumeLater, fresh]; rfl

theorem resumeLater_of_set (set : (s.lane l).resumePending = true) : resumeLater l s = s.answered .busy := if_pos set

theorem stopTaken_iff (x : Lane) : stopTaken x = true ↔ x.stage = .doneWrite .stop := by simp [stopTaken]

theorem ruleResume_of_stopTaken (running : (s.lane l).state = .running) (stop : (s.lane l).stage = .doneWrite .stop) :
    ruleResume l s = s.answered .busy := by
  simp [ruleResume, running, resumeRunning, stopTaken, stop]; rfl

/-- RESUME of a lane that is to fetch again later sets RESUME_PENDING, or finds it set. -/
theorem ruleResume_eq_resumeLater
    (state : (s.lane l).state = .starting ∨ ((s.lane l).state = .running ∧ (s.lane l).stage ≠ .doneWrite .stop) ∨ (s.lane l).state = .held) :
    ruleResume l s = resumeLater l s := by
  rcases state with starting | ⟨running, noStop⟩ | held
  · simp [ruleResume, starting]
  · simp [ruleResume, running, resumeRunning, stopTaken, noStop]
  · simp [ruleResume, held]

end

/-- Settles O13. -/
theorem startAndResumeOrders : Obligations.StartAndResumeOrders := by
  intro l s run x
  rw [exec_start_of_run run, exec_resume_of_run run]
  refine ⟨fun idle none => ?_, fun idle pending => ?_, fun busy => ?_, fun suspended none => ?_, fun suspended pending => ?_,
    fun running stop => ?_, fun state fresh => ?_, fun state set => ?_, fun state => ?_⟩
  · rw [ruleStart_of_idle idle none]; rfl
  · rw [ruleStart_of_pending idle pending]
  · rw [ruleStart_of_busy busy]
  · simp only [ruleResume, show (s.lane l).state = _ from suspended, resumeNow, show (s.lane l).statusPending = _ from none]; rfl
  · simp only [ruleResume, show (s.lane l).state = _ from suspended, resumeNow, show (s.lane l).statusPending = _ from pending]; rfl
  · rw [ruleResume_of_stopTaken running stop]
  · rw [ruleResume_eq_resumeLater state, resumeLater_of_fresh fresh]
  · by_cases stop : (s.lane l).state = .running ∧ (s.lane l).stage = .doneWrite .stop
    · rw [ruleResume_of_stopTaken stop.1 stop.2]
    · have later := state.imp id (Or.imp (fun running => And.intro running fun stage => stop ⟨running, stage⟩) id)
      rw [ruleResume_eq_resumeLater later, resumeLater_of_set set]
  · rcases state with h | h | h <;> simp only [ruleResume, show (s.lane l).state = _ from h] <;> rfl

/-! ## HALT (R9, R35) -/

section
variable {l : LaneId} {s : State}

/-- HALT of a STARTING or RUNNING lane that is neither halting nor at the end of a STOP. -/
theorem ruleHalt_of_running (state : (s.lane l).state = .starting ∨ (s.lane l).state = .running) (fresh : (s.lane l).haltPending = false)
    (noStop : (s.lane l).stage ≠ .doneWrite .stop) :
    ruleHalt l s = haltAt l ((s.answered .accepted).withLane l { s.lane l with haltPending := true }) := by
  have runs : haltRunning l s = haltAt l ((s.answered .accepted).withLane l { s.lane l with haltPending := true }) :=
    if_neg (by simp [fresh, stopTaken, noStop])
  rcases state with h | h <;> simp only [ruleHalt, h, runs]

theorem ruleHalt_of_refused (state : (s.lane l).state = .starting ∨ (s.lane l).state = .running)
    (refused : (s.lane l).haltPending = true ∨ (s.lane l).stage = .doneWrite .stop) : ruleHalt l s = s.answered .busy := by
  have busy : haltRunning l s = s.answered .busy := if_pos (by simpa [stopTaken] using refused)
  rcases state with h | h <;> simp only [ruleHalt, h, busy]

theorem ruleHalt_of_stopped (state : (s.lane l).state = .suspended ∨ (s.lane l).state = .held) :
    ruleHalt l s = endProgram l .halted none (s.answered .accepted) := by
  rcases state with h | h <;> simp only [ruleHalt, h] <;> rfl

theorem ruleHalt_of_idle (state : (s.lane l).state = .idle ∨ (s.lane l).state = .draining ∨ (s.lane l).state = .clearing) :
    ruleHalt l s = s.answered .busy := by
  rcases state with h | h | h <;> simp only [ruleHalt, h] <;> rfl

theorem haltAt_of_hold (stage : (s.lane l).stage = .boundary ∨ ∃ w, (s.lane l).stage = .tagged w) :
    haltAt l s = endProgram l .halted none s := by
  rcases stage with h | ⟨w, h⟩ <;> simp only [haltAt, h]

theorem haltAt_of_wait {w : StepWord}
    (stage : (s.lane l).stage = .sinkWait w ∨ (s.lane l).stage = .markWait w ∨ (s.lane l).stage = .exposeWait w) :
    haltAt l s = abandonForHalt l w s := by
  rcases stage with h | h | h <;> simp only [haltAt, h]

theorem haltAt_of_other (boundary : (s.lane l).stage ≠ .boundary)
    (waits : ∀ w, (s.lane l).stage ≠ .tagged w ∧ (s.lane l).stage ≠ .sinkWait w ∧ (s.lane l).stage ≠ .markWait w
      ∧ (s.lane l).stage ≠ .exposeWait w) : haltAt l s = s := by
  cases h : (s.lane l).stage with
  | boundary => exact absurd h boundary
  | tagged w => exact absurd h (waits w).1
  | sinkWait w => exact absurd h (waits w).2.1
  | markWait w => exact absurd h (waits w).2.2.1
  | exposeWait w => exact absurd h (waits w).2.2.2
  | _ => simp only [haltAt, h]

end

/-- Settles O14. -/
theorem haltOrder : Obligations.HaltOrder := by
  intro l s run x u
  have lane : u.lane l = { x with haltPending := true } := State.withLane_lane_same ..
  rw [exec_halt_of_run run]
  refine ⟨fun stopped => ?_, fun state fresh noStop => ⟨fun stage => ?_, fun w stage => ?_, fun boundary waits => ?_⟩,
    fun state stop => ?_, fun pending suspended held => ?_, fun state => ?_⟩
  · rw [ruleHalt_of_stopped stopped]
  · rw [ruleHalt_of_running state fresh noStop, haltAt_of_hold (by rw [lane]; exact stage)]
  · rw [ruleHalt_of_running state fresh noStop, haltAt_of_wait (w := w) (by rw [lane]; exact stage), abandonForHalt, lane]
    rfl
  · rw [ruleHalt_of_running state fresh noStop, haltAt_of_other (by rw [lane]; exact boundary) (by rw [lane]; exact waits)]
  · rw [ruleHalt_of_refused state (.inr stop)]
  · by_cases runs : (s.lane l).state = .starting ∨ (s.lane l).state = .running
    · rw [ruleHalt_of_refused runs (.inl pending)]
    · have : x.state = .idle ∨ x.state = .draining ∨ x.state = .clearing := by
        cases h : x.state <;> simp_all [x]
      rw [ruleHalt_of_idle this]
  · rw [ruleHalt_of_idle state]

/-! ## HOLD, GO and STEP (R178, R183, R184) -/

section
variable {l : LaneId} {s : State}

theorem holdAllowed_iff (x : Lane) : holdAllowed x = true ↔ x.options.holdPermit = true ∧ (x.state = .running ∨ x.state = .suspended)
    ∧ x.holdPending = false ∧ x.haltPending = false ∧ x.stage ≠ .doneWrite .stop := by
  simp [holdAllowed, stopTaken, and_assoc]

theorem ruleGo_of_held (held : (s.lane l).state = .held) : ruleGo l s = evalTriggerFor l (goOn l (s.answered .accepted)) := if_pos held

theorem ruleGo_of_cancelled (held : (s.lane l).state ≠ .held) (pending : (s.lane l).holdPending = true)
    (noStop : (s.lane l).stage ≠ .doneWrite .stop) :
    ruleGo l s = (s.answered .accepted).withLane l (s.lane l).holdCancelled := by
  simp [ruleGo, held, pending, stopTaken, noStop]; rfl

theorem ruleGo_of_refused (held : (s.lane l).state ≠ .held) (refused : (s.lane l).holdPending = false ∨ (s.lane l).stage = .doneWrite .stop) :
    ruleGo l s = s.answered .busy := by
  have no : ¬ ((s.lane l).holdPending = true ∧ ¬ stopTaken (s.lane l) = true) := by
    rcases refused with h | h <;> simp [h, stopTaken]
  simp only [ruleGo, if_neg held, if_neg no]; rfl

theorem ruleStep_of_held (held : (s.lane l).state = .held) :
    ruleStep l s = stepOn l ((s.answered .accepted).withLane l { s.lane l with holdPending := true, holdPass := true }) := if_pos held

theorem holdCancelled_eq (x : Lane) : x.holdCancelled = { x with
    holdPending := false
    stage := if x.stage = .boundary then .fetch else if x.stage = .leftHold then .rest else x.stage } := rfl

theorem goOn_of_boundary (pos : (s.lane l).holdPosition = some .boundary) :
    goOn l s = s.withLane l { s.lane l with state := .running, holdPosition := none, stage := .fetch } := by
  simp only [goOn, pos]; rfl

theorem leaveTagged_of_tagged {w : StepWord} (stage : (s.lane l).stage = .tagged w) :
    leaveTagged l s = examineSuspend l w (s.withLane l { s.lane l with state := .running, holdPosition := none, holdPass := true }) := by
  have left : leaveTagged l s
      = examineSuspend l w (s.setLane l fun x => { x with state := .running, holdPosition := none, holdPass := true }) := by
    simp only [leaveTagged, stage]
  exact left

theorem goOn_of_tagged (pos : (s.lane l).holdPosition = some .tagged) : goOn l s = leaveTagged l s := by simp only [goOn, pos]

theorem goOn_of_suspended (pos : (s.lane l).holdPosition = some .suspended) (resume : (s.lane l).resumePending = false) :
    goOn l s = s.withLane l { s.lane l with state := .suspended, holdPosition := none } := by
  simp only [goOn, pos]
  exact if_neg (by simp [resume])

theorem goOn_of_resumed (pos : (s.lane l).holdPosition = some .suspended) (resume : (s.lane l).resumePending = true) :
    goOn l s = s.withLane l { s.lane l with state := .running, holdPosition := none, resumePending := false, stage := .fetch } := by
  simp only [goOn, pos]
  exact if_pos resume

theorem stepOn_of_fetch (pos : (s.lane l).holdPosition = some .boundary ∨ (s.lane l).holdPosition = some .suspended) :
    stepOn l s = s.withLane l { s.lane l with state := .running, holdPosition := none, stage := .fetch } := by
  rcases pos with h | h <;> simp only [stepOn, h] <;> rfl

theorem stepOn_of_tagged (pos : (s.lane l).holdPosition = some .tagged) : stepOn l s = grantBeforeHold l (leaveTagged l s) := by
  simp only [stepOn, pos]

end

/-- Settles O18. -/
theorem holdOrders : Obligations.HoldOrders := by
  intro l s run x a may
  rw [exec_hold_of_run run, exec_go_of_run run, exec_stepOrder_of_run run]
  have held_iff : holdAllowed (s.lane l) = true ↔ may := holdAllowed_iff x
  have stepped : ∀ y, (a.withLane l { x with holdPending := true, holdPass := true }).withLane l y = a.withLane l y :=
    State.withLane_withLane a l _
  have lane : (a.withLane l { x with holdPending := true, holdPass := true }).lane l = { x with holdPending := true, holdPass := true } :=
    State.withLane_lane_same ..
  refine ⟨fun yes => ?_, fun no => ?_, fun held pending noStop => ?_, fun held refused => ?_, fun held => ?_, fun held pos => ?_,
    fun w held pos stage => ?_, fun held pos => ?_⟩
  · exact congrArg _ (if_pos (held_iff.mpr yes))
  · exact congrArg _ (if_neg (mt held_iff.mp no))
  · rw [ruleGo_of_cancelled held pending noStop, holdCancelled_eq]
  · rw [ruleGo_of_refused held refused]
  · exact congrArg _ (if_neg held)
  · rw [ruleGo_of_held held, goOn_of_boundary (s := s.answered .accepted) pos, ruleStep_of_held held, stepOn_of_fetch (.inl (by rw [lane]; exact pos)), stepped, lane]
    exact ⟨rfl, rfl⟩
  · rw [ruleGo_of_held held, goOn_of_tagged (s := s.answered .accepted) pos, leaveTagged_of_tagged (s := s.answered .accepted) stage, ruleStep_of_held held,
      stepOn_of_tagged (by rw [lane]; exact pos), leaveTagged_of_tagged (w := w) (by rw [lane]; exact stage), stepped, lane]
    exact ⟨rfl, fun first => congrArg _ (if_pos first), fun later => congrArg _ (if_neg later)⟩
  · rw [ruleGo_of_held held, ruleStep_of_held held, stepOn_of_fetch (.inr (by rw [lane]; exact pos)), stepped, lane]
    refine ⟨fun resume => ?_, fun resume => ?_, rfl⟩
    · rw [goOn_of_suspended (s := s.answered .accepted) pos resume]; rfl
    · rw [goOn_of_resumed (s := s.answered .accepted) pos resume]; rfl

end Sys2Proof.Machine

/-! SUPPORT. Raising status, its record, and the end of a program (R13 to R15, R33), and the statements about them. -/

namespace Sys2Proof.Machine

set_option Elab.async false

/-! ## Bytes and lists -/

@[simp] theorem le_length (n v : Nat) : (le n v).length = n := by
  induction n generalizing v with
  | zero => rfl
  | succ n ih => simp [le, ih]

@[simp] theorem leInt_length (n : Nat) (v : Int) : (leInt n v).length = n := le_length ..

@[simp] theorem zeros_length (n : Nat) : (zeros n).length = n := List.length_replicate

theorem le_one (v : Nat) : le 1 v = [BitVec.ofNat 8 v] := rfl

theorem firstIndex_append_cons {α : Type} {q : α → Bool} {before rest : List α} {x : α} (none : ∀ y ∈ before, q y = false)
    (hit : q x = true) : firstIndex q (before ++ x :: rest) = some before.length := by
  induction before with
  | nil => simp [firstIndex, hit]
  | cons y ys ih => simp [firstIndex, none y (by simp), ih fun z hz => none z (by simp [hz])]

@[simp] theorem removeAt_append_cons {α : Type} (before rest : List α) (x : α) :
    removeAt before.length (before ++ x :: rest) = before ++ rest := by
  simp [removeAt_eq_eraseIdx, List.eraseIdx_append]

/-- No byte but those written changes (R21). -/
theorem Memory.byteAt_write_of_outside {m : Memory} {a : Word} {bs : List Byte} {x : Nat} (outside : OutsideOf a bs.length x) :
    (m.write a bs).byteAt x = m.byteAt x :=
  Memory.byteAt_write_outside m a bs x outside.1 (by have := outside.2; omega) outside.2

/-! ## The record of a raise (R13, R14) -/

theorem raiseStatus_statusWrites (l : LaneId) (k : Kinds) (r : Reasons) (s : State) :
    (raiseStatus l k r s).statusWrites = s.statusWrites
      ++ [⟨l, laneBlockAddr s.port.anchor l + 32, statusRecord (s.setLane l fun x => x.raised k r) l⟩] := by
  unfold raiseStatus
  by_cases pending : (s.lane l).statusPending
  · simp [pending, startStatusWrite]
  · simp [pending, startStatusWrite]; rfl

theorem laneBlockAddr_add (a : Word) (l : LaneId) (n : Nat) :
    laneBlockAddr a l + BitVec.ofNat 32 n = a + BitVec.ofNat 32 (256 + 256 * l.val + n) := by
  rw [laneBlockAddr, BitVec.add_assoc, BitVec.ofNat_add_ofNat]

theorem recordAddr_eq (a : Word) (l : LaneId) : laneBlockAddr a l + 32 = a + BitVec.ofNat 32 (288 + 256 * l.val) := by
  rw [show (32 : Word) = BitVec.ofNat 32 32 from rfl, laneBlockAddr_add]
  congr 2
  omega

/-- The record as R14 lays it out. -/
theorem statusRecord_eq (s : State) (l : LaneId) :
    let x := s.lane l
    let n := x.counters
    statusRecord s l = le 4 x.recordSeq.toNat
      ++ [BitVec.ofNat 8 x.state.code, BitVec.ofNat 8 x.completion.code, BitVec.ofNat 8 x.kinds.code, BitVec.ofNat 8 x.reasons.code]
      ++ le 2 (activityFlags s l) ++ [BitVec.ofNat 8 x.check.code, BitVec.ofNat 8 x.notes] ++ le 4 x.lastStep.toNat ++ leInt 4 s.odo.p
      ++ le 4 n.rendered ++ le 4 n.starved ++ le 4 n.damaged ++ le 4 n.faulted ++ le 4 n.coalesced ++ le 4 n.withheldSupply
      ++ le 4 n.withheldHeld ++ le 4 n.committed ++ le 4 n.gaps ++ le 4 n.unplaced ++ le 4 n.discarded := by
  simp only [statusRecord, Counters.toList, List.flatMap_cons, List.flatMap_nil, List.append_nil, le_one, List.append_assoc,
    List.cons_append, List.nil_append]

theorem statusRecord_length (s : State) (l : LaneId) : (statusRecord s l).length = 64 := by
  simp [statusRecord, Counters.toList]

theorem raiseStatus_parts (l : LaneId) (k : Kinds) (r : Reasons) (s : State) :
    raiseStatus l k r s = { s with
      lanes := (raiseStatus l k r s).lanes
      port.queues := (raiseStatus l k r s).port.queues
      statusWrites := (raiseStatus l k r s).statusWrites } := by
  unfold raiseStatus
  by_cases pending : (s.lane l).statusPending
  · rw [if_pos pending]; rfl
  · rw [if_neg pending]; rfl

/-- A lane that was not status pending joins the tail of its class's queue (R16). -/
theorem raiseStatus_queues_get (l : LaneId) (k : Kinds) (r : Reasons) (s : State) (c : LaneId) :
    (raiseStatus l k r s).port.queues.get c
      = if (s.lane l).statusPending = false ∧ c = (s.lane l).cls then s.port.queues.get c ++ [l] else s.port.queues.get c := by
  rw [raiseStatus_queues]
  by_cases pending : (s.lane l).statusPending
  · simp [pending]
  · simp only [pending, Four.get_modify, true_and, if_false, Bool.false_eq_true]
    split <;> simp_all

@[simp] theorem Reasons.or_none (r : Reasons) : r.or {} = r := by simp [Reasons.or]

/-- Settles O8. -/
theorem statusRaised : Obligations.StatusRaised := by
  intro l k r s t x y n bit
  have lane : t.lane l = x.raised k r := raiseStatus_lane_same ..
  refine ⟨lane, fun m ne => raiseStatus_lane_ne ne .., fun c => ?_, ⟨_, raiseStatus_statusWrites .., rfl, recordAddr_eq .., ?_⟩,
    rfl, rfl, rfl, raiseStatus_parts ..⟩
  · exact raiseStatus_queues_get ..
  · rw [show y = x.raised k r from lane, statusRecord_eq, State.lane_setLane_same, activityFlags, State.lane_setLane_same]
    rfl

/-- Settles O7. -/
theorem statusRecordWriteEnds : Obligations.StatusRecordWriteEnds := by
  refine ⟨fun s before rest q writes others held => ?_, fun l k r s => ⟨_, raiseStatus_statusWrites .., rfl, rfl, statusRecord_length ..⟩⟩
  have found : statusWriteOf s q.lane = some before.length := by
    rw [statusWriteOf, writes]
    exact firstIndex_append_cons (by simpa using others) (by simp)
  have ended (write : WriteEnd) : exec (.statusRecordWriteEnd q.lane write) s
      = .next (releasePort (statusWriteEffect q write { s with statusWrites := before ++ rest })) := by
    change execStatusRecordWriteEnd q.lane write s = _
    simp only [execStatusRecordWriteEnd, found]
    simp [writes]
  have ready {t : State} (h : t.port.held = []) : releasePort t = t := by
    have : t = { t with port.held := [] } := by rw [← h]
    rw [releasePort, h, runHeld, ← this]
  refine ⟨?_, fun x outside => Memory.byteAt_write_of_outside outside, fun left => ?_⟩
  · rw [ended, ready (by simpa [statusWriteEffect] using held)]; rfl
  · rw [ended, ready (by simpa [statusWriteEffect] using held)]; rfl

/-! ## The end of a program (R33) -/

/-- What the end of a program leaves for the raise of its status: the lane and, with the survey open, the disarmed trigger and the
recorded ending. -/
theorem endProgram_eq (l : LaneId) (c : Completion) (check : Option CheckCode) (s : State) :
    endProgram l c check s = raiseStatus l { primary := true, secondary := !s.surveyOpen l, alert := check.isSome } {} { s with
      lanes := s.lanes.modify l (Lane.programEnded · (if s.surveyOpen l then .draining else .idle) c (check.getD (s.lane l).check))
      trigger := if s.surveyOpen l then (disarmTrigger l s).trigger else s.trigger
      map := if s.surveyOpen l then { s.map with ending := .programEnded } else s.map } := by
  unfold endProgram
  by_cases h : s.surveyOpen l
  · rw [if_pos h]
    simp only [h, if_true, Bool.not_true]
    congr 1
    unfold disarmTrigger
    by_cases armed : s.trigger.armed = some l
    · rw [if_pos armed, if_pos (by exact armed)]; rfl
    · rw [if_neg armed, if_neg (by exact armed)]; rfl
  · rw [if_neg h]
    simp only [h, Bool.not_false]; rfl

/-- Settles O15. -/
theorem programEnds : Obligations.ProgramEnds := by
  intro l c k s t x open_ raised
  have ended : t = raiseStatus l raised {} _ := endProgram_eq l c k s
  refine ⟨(endProgram_lane_same l c k s).trans ?_, fun m ne => endProgram_lane_ne ne .., fun d => ?_, ?_, ?_, ?_, ?_⟩
  · simp only [Lane.raised, Lane.programEnded, Reasons.or_none]; rfl
  · rw [ended, raiseStatus_queues_get, State.lane, Four.get_modify_same]; rfl
  · simp only [ended, raiseStatus_frame]; rfl
  · simp only [ended, raiseStatus_frame]
    by_cases bound : s.map.lane = some l
    · simp [open_, State.surveyOpen, bound, disarmTrigger]
      split <;> rfl
    · simp [open_, State.surveyOpen, bound]
  · rw [ended]; exact ⟨_, raiseStatus_statusWrites .., rfl⟩
  · rw [ended]; simp

end Sys2Proof.Machine

/-! SUPPORT. The resets and the accesses of the host (R1 to R3, R13, R19, R49, R50), and the statements about them. -/

namespace Sys2Proof.Machine

set_option Elab.async false

/-! ## The two resets -/

theorem attentionWord_of_port_reset {s : State} (port : s.port = Port.reset) : attentionWord s = 0x70 := by
  have same : attentionWord s = attentionWord State.reset := by
    rw [attentionWord, nextLane, port]; rfl
  rw [same]
  decide

/-- Settles O3. -/
theorem powerOnState : Obligations.PowerOnState := by
  intro pins s
  refine ⟨_, rfl, rfl, rfl, rfl, rfl, rfl, attentionWord_of_port_reset rfl, rfl,
    (mask_and_attnN_of_port_reset rfl).2, fun l => ?_⟩
  match l with
  | 0 | 1 | 2 | 3 => exact ⟨rfl, rfl, rfl, rfl, rfl, rfl, rfl, rfl, rfl, rfl, rfl, rfl, rfl, rfl, rfl⟩

/-- Settles O4. -/
theorem boardResetState_eq : Obligations.BoardResetState := fun _ _ => rfl

/-! ## Accesses of the host (R1, R2) -/

theorem decodeWrite_of_ignored {offset : BitVec 5} {enables : BitVec 4} (ignored : ignoredWrite offset enables) (value : Word) :
    decodeWrite offset enables value = .registerWriteIgnored offset enables value := by
  unfold decodeWrite
  by_cases part : enables ≠ 0xF#4
  · rw [if_pos part]
  · have offsets := ignored.resolve_left part
    simp only [List.mem_cons, List.not_mem_nil, or_false] at offsets
    rw [if_neg part]
    rcases offsets with h | h | h | h | h <;> simp [h]

theorem decodeOrderFields_of_invalid {f : BitVec 3} {code : BitVec 8} (invalid : invalidOrderFields f code) :
    decodeOrderFields f code = .invalidOrder f code := by
  unfold decodeOrderFields
  split
  · dsimp only
    split
    case h_11 => rfl
    all_goals omega
  · rfl

/-- A command that is an access goes to the slave port. -/
theorem exec_of_isAccess {c : Instr} (access : IsAccess c) (wf : WellFormed c) (s : State) : exec c s = .next (portAccess c s) := by
  cases access with
  | ignored offset enables value =>
    have ignored : ignoredWrite offset enables := by
      refine Classical.byContradiction fun no => ?_
      simp [WellFormed, Instr.formError, no] at wf
    exact congrArg (fun c => Host.Outcome.next (portAccess c s)) (decodeWrite_of_ignored ignored value)
  | invalid f code =>
    have invalid : invalidOrderFields f code := by
      refine Classical.byContradiction fun no => ?_
      simp only [WellFormed, Instr.formError, if_neg no] at wf
      cases wf
    exact congrArg (fun c => Host.Outcome.next (portAccess c s)) (decodeOrderFields_of_invalid invalid)
  | _ => rfl

/-- Settles O6. -/
theorem portHoldsAccesses : Obligations.PortHoldsAccesses := by
  refine ⟨fun c s access wf busy => ?_, fun c s q access wf writes held => ?_⟩
  · rw [exec_of_isAccess access wf]
    exact congrArg _ (if_neg (by simpa using busy))
  · have found : statusWriteOf s q.lane = some 0 := by simp [statusWriteOf, writes, firstIndex]
    have ended (write : WriteEnd) : exec (.statusRecordWriteEnd q.lane write) s
        = .next (releasePort (statusWriteEffect q write { s with statusWrites := [] })) := by
      change execStatusRecordWriteEnd q.lane write s = _
      simp only [execStatusRecordWriteEnd, found]
      simp [writes, removeAt]
    have released {t : State} (h : t.port.held = [c]) (free : t.statusWrites = []) :
        Host.Outcome.next (releasePort t) = exec c { t with port.held := [] } := by
      have free' : PortFree { t with port.held := [] } := free
      rw [exec_of_isAccess access wf, portAccess_of_portFree free', releasePort, h, runHeld, if_pos (by simp [free]), runHeld]
    refine ⟨?_, fun left => ?_⟩
    · rw [ended, released (by simpa [statusWriteEffect] using held) rfl]; rfl
    · rw [ended, released (by simpa [statusWriteEffect] using held) rfl]; rfl

/-! ## The register window and screening (R1 to R3) -/

/-- The fields of the word that RESULT reads: none overlaps another, and the bits above them are 0. -/
theorem resultWord_fields (s : State) :
    (resultWord s).extractLsb' 0 4 = BitVec.ofNat 4 s.port.result.code
      ∧ (resultWord s).extractLsb' 4 4 = BitVec.ofNat 4 s.port.config.code
      ∧ (resultWord s).extractLsb' 8 8 = BitVec.ofNat 8 s.port.settingsError ∧ (resultWord s).getLsbD 16 = s.odo.saturated
      ∧ (resultWord s).getLsbD 17 = s.exposure.inFlight.isSome
      ∧ (resultWord s).extractLsb' 18 2 = BitVec.ofNat 2 s.supply.state.code ∧ (resultWord s).extractLsb' 20 12 = 0 := by
  have result : s.port.result.code < 5 := by cases s.port.result <;> decide
  have config : s.port.config.code < 3 := by cases s.port.config <;> decide
  have supply : s.supply.state.code < 3 := by cases s.supply.state <;> decide
  have saturated := Bool.toNat_le s.odo.saturated
  have busy := Bool.toNat_le s.headBusy
  have busy_eq : s.headBusy = s.exposure.inFlight.isSome := by simp [State.headBusy, State.headFree]
  have value : (resultWord s).toNat = s.port.result.code + 2 ^ 4 * s.port.config.code + 2 ^ 8 * (s.port.settingsError % 256)
      + 2 ^ 16 * s.odo.saturated.toNat + 2 ^ 17 * s.headBusy.toNat + 2 ^ 18 * s.supply.state.code := by
    rw [resultWord, flagAt_eq_mul_toNat, flagAt_eq_mul_toNat, BitVec.toNat_ofNat, Nat.mod_eq_of_lt (by omega)]
  rw [← busy_eq]
  refine ⟨extractLsb'_eq_ofNat ?_, extractLsb'_eq_ofNat ?_, extractLsb'_eq_ofNat ?_, getLsbD_eq_of_toNat ?_, getLsbD_eq_of_toNat ?_,
    extractLsb'_eq_ofNat ?_, extractLsb'_eq_ofNat (v := 0) ?_⟩ <;> omega

theorem decodeOrder_of_fields {w : Word} {l : LaneId} {code : Nat} (lane : w.extractLsb' 0 3 = BitVec.ofNat 3 l.val)
    (order : w.extractLsb' 8 8 = BitVec.ofNat 8 code) :
    decodeOrder w = decodeOrderFields (BitVec.ofNat 3 l.val) (BitVec.ofNat 8 code) := by
  rw [decodeOrder, lane, order]

/-- The orders by their codes (R2). -/
theorem decodeOrderFields_named (l : LaneId) :
    let order (k : Nat) := decodeOrderFields (BitVec.ofNat 3 l.val) (BitVec.ofNat 8 k)
    order 1 = .start l ∧ order 2 = .resume l ∧ order 3 = .halt l ∧ order 4 = .clear l ∧ order 5 = .take l ∧ order 6 = .hold l
      ∧ order 7 = .stepOrder l ∧ order 8 = .go l ∧ order 9 = .snap l ∧ order 10 = .dump l := by
  match l with
  | 0 | 1 | 2 | 3 => exact ⟨rfl, rfl, rfl, rfl, rfl, rfl, rfl, rfl, rfl, rfl⟩

theorem screened_of_unconfigured {s : State} (unconfigured : s.port.config = .unconfigured) (order : State → State) :
    screened false order s = s.answered .unconfigured := by
  simp only [screened, unconfigured]; rfl

/-- Every order but TAKE and SNAP is an access that an UNCONFIGURED part refuses (R2). -/
theorem IsConfiguredOrder.access {l : LaneId} {c : Instr} (order : IsConfiguredOrder l c) :
    IsAccess c ∧ WellFormed c ∧ ∃ rule, ∀ s, runAccess c s = screened false rule s := by
  rcases order with rfl | rfl | rfl | rfl | rfl | rfl | rfl | rfl
  · exact ⟨.start l, rfl, ruleStart l, fun _ => rfl⟩
  · exact ⟨.resume l, rfl, ruleResume l, fun _ => rfl⟩
  · exact ⟨.halt l, rfl, ruleHalt l, fun _ => rfl⟩
  · exact ⟨.clear l, rfl, ruleClear l, fun _ => rfl⟩
  · exact ⟨.hold l, rfl, ruleHold l, fun _ => rfl⟩
  · exact ⟨.step l, rfl, ruleStep l, fun _ => rfl⟩
  · exact ⟨.go l, rfl, ruleGo l, fun _ => rfl⟩
  · exact ⟨.dump l, rfl, ruleDump l, fun _ => rfl⟩

/-- What an ORDER write spells is an access. -/
theorem decodeOrderFields_isAccess (f : BitVec 3) (code : BitVec 8) :
    IsAccess (decodeOrderFields f code) ∧ WellFormed (decodeOrderFields f code) := by
  by_cases invalid : invalidOrderFields f code
  · rw [decodeOrderFields_of_invalid invalid]
    exact ⟨.invalid f code, if_pos invalid⟩
  · have lane : f.toNat < 4 := by omega
    simp only [decodeOrderFields, dif_pos lane]
    split
    · exact ⟨.start _, rfl⟩
    · exact ⟨.resume _, rfl⟩
    · exact ⟨.halt _, rfl⟩
    · exact ⟨.clear _, rfl⟩
    · exact ⟨.take _, rfl⟩
    · exact ⟨.hold _, rfl⟩
    · exact ⟨.step _, rfl⟩
    · exact ⟨.go _, rfl⟩
    · exact ⟨.snap _, rfl⟩
    · exact ⟨.dump _, rfl⟩
    · next h1 h2 h3 h4 h5 h6 h7 h8 h9 h10 =>
      simp only [imp_false] at h1 h2 h3 h4 h5 h6 h7 h8 h9 h10
      omega

/-- What a write to the register window spells is an access. -/
theorem decodeWrite_isAccess (offset : BitVec 5) (enables : BitVec 4) (value : Word) :
    IsAccess (decodeWrite offset enables value) ∧ WellFormed (decodeWrite offset enables value) := by
  by_cases ignored : ignoredWrite offset enables
  · rw [decodeWrite_of_ignored ignored]
    exact ⟨.ignored .., if_pos ignored⟩
  · have full : enables = 15#4 := by
      refine Classical.byContradiction fun part => ?_
      exact ignored (.inl part)
    simp only [decodeWrite, full, ne_eq, not_true_eq_false, if_false]
    split
    · exact ⟨.anchor value, rfl⟩
    · exact decodeOrderFields_isAccess ..
    · exact ⟨.attentionWrite value, rfl⟩
    · next h1 h2 h4 =>
      refine absurd (Or.inr ?_) ignored
      have := offset.isLt
      simp only [imp_false] at h1 h2 h4
      simp only [List.mem_cons, List.not_mem_nil, or_false]
      omega

/-- Settles O9. -/
theorem portScreening : Obligations.PortScreening := by
  refine ⟨fun w l lane => ?_, fun w invalid => decodeOrderFields_of_invalid invalid, fun offset enables value s => ?_, fun f code s => ?_,
    resultWord_fields, rfl, rfl, rfl, fun s free => ⟨fun offset enables value ignored => ?_, fun f code invalid => ?_, ?_, fun l c => ?_⟩⟩
  · obtain ⟨o1, o2, o3, o4, o5, o6, o7, o8, o9, o10⟩ := decodeOrderFields_named l
    exact ⟨fun h => (decodeOrder_of_fields lane h).trans o1, fun h => (decodeOrder_of_fields lane h).trans o2,
      fun h => (decodeOrder_of_fields lane h).trans o3, fun h => (decodeOrder_of_fields lane h).trans o4,
      fun h => (decodeOrder_of_fields lane h).trans o5, fun h => (decodeOrder_of_fields lane h).trans o6,
      fun h => (decodeOrder_of_fields lane h).trans o7, fun h => (decodeOrder_of_fields lane h).trans o8,
      fun h => (decodeOrder_of_fields lane h).trans o9, fun h => (decodeOrder_of_fields lane h).trans o10⟩
  · refine ⟨fun ignored => decodeWrite_of_ignored ignored value, fun full at_ => ?_, fun full at_ => ?_, fun full at_ => ?_, ?_⟩
    · simp [decodeWrite, full, at_]
    · simp [decodeWrite, full, at_]
    · simp [decodeWrite, full, at_]
    · obtain ⟨access, wf⟩ := decodeWrite_isAccess offset enables value
      exact (exec_of_isAccess access wf s).symm
  · obtain ⟨access, wf⟩ := decodeOrderFields_isAccess f code
    exact (exec_of_isAccess access wf s).symm
  · rw [exec_of_isAccess (.ignored ..) (by simp [WellFormed, Instr.formError, ignored]), portAccess_of_portFree free]; rfl
  · rw [exec_of_isAccess (.invalid ..) (by simp [WellFormed, Instr.formError, invalid]), portAccess_of_portFree free]; rfl
  · rw [exec_attentionRead_of_portFree free, readAttention]
    simp [addressedBytes]
  · have run (access : IsAccess c) (wf : WellFormed c) : exec c s = .next (runAccess c s) := by
      rw [exec_of_isAccess access wf, portAccess_of_portFree free]
    refine ⟨fun loading order => ?_, fun unconfigured order => ?_⟩
    · rcases order with order | rfl | rfl
      · obtain ⟨access, wf, rule, ran⟩ := IsConfiguredOrder.access order
        rw [run access wf, ran, screened_of_loading loading]
      · exact (run (.take l) rfl).trans (congrArg _ (screened_of_loading loading ..))
      · exact (run (.snap l) rfl).trans (congrArg _ (screened_of_loading loading ..))
    · obtain ⟨access, wf, rule, ran⟩ := IsConfiguredOrder.access order
      rw [run access wf, ran, screened_of_unconfigured unconfigured]

end Sys2Proof.Machine

/-! SUPPORT. Inspection (R185 to R188), and the statements about it. -/

namespace Sys2Proof.Machine

set_option Elab.async false

/-! ## Inspection (chapter 11) -/

theorem dropWritten_of_lt {count : Nat} {bytes : List Byte} (inside : count < bytes.length) (a : Word) (rest : List (Word × List Byte)) :
    dropWritten count a bytes rest = (a + BitVec.ofNat 32 count, bytes.drop count) :: rest := if_pos inside

theorem dropWritten_of_le {count : Nat} {bytes : List Byte} (past : bytes.length ≤ count) (a : Word) (rest : List (Word × List Byte)) :
    dropWritten count a bytes rest = rest := if_neg (by omega)

theorem inspectionWriteEnd_landed {s : State} {kind : InspectKind} {a : Word} {bytes : List Byte} {rest : List (Word × List Byte)}
    (parts : s.port.inspection = some ⟨kind, (a, bytes) :: rest⟩) (count : Nat) :
    inspectionWriteEnd kind count .landed s = .next { s with
      mem := s.mem.write a (bytes.take count)
      port.inspection := if (dropWritten count a bytes rest).isEmpty then none else some ⟨kind, dropWritten count a bytes rest⟩ } := by
  simp only [inspectionWriteEnd, parts, ne_eq, not_true_eq_false, if_false]
  rfl

theorem inspectionWriteEnd_faulted {s : State} {kind : InspectKind} {a : Word} {bytes : List Byte} {rest : List (Word × List Byte)}
    (parts : s.port.inspection = some ⟨kind, (a, bytes) :: rest⟩) (count : Nat) (left : Stores) :
    inspectionWriteEnd kind count (.faulted left) s = .next { s with
      mem := s.mem.afterStores left, port.recordFault := true, port.inspection := none } := by
  simp only [inspectionWriteEnd, parts, ne_eq, not_true_eq_false, if_false]
  rfl

/-- Settles O20. -/
theorem inspectionWriteEnds : Obligations.InspectionWriteEnds := by
  intro s count kind a bytes rest parts c
  have run (w : WriteEnd) : exec (c w) s = inspectionWriteEnd kind count w s := by cases kind <;> rfl
  refine ⟨fun inside => ?_, fun past more => ?_, fun past done => ?_, fun left => ?_, fun x outside => ?_⟩
  · rw [run, inspectionWriteEnd_landed parts, dropWritten_of_lt inside]; rfl
  · rw [run, inspectionWriteEnd_landed parts, dropWritten_of_le past, List.take_of_length_le past, if_neg (by simpa using more)]
  · rw [run, inspectionWriteEnd_landed parts, dropWritten_of_le past, List.take_of_length_le past, done]; rfl
  · rw [run, inspectionWriteEnd_faulted parts]
  · exact Memory.byteAt_write_of_outside ⟨outside.1, Nat.le_trans (List.length_take_le ..) outside.2⟩

theorem sum_range_eight (g : Nat → Nat) :
    ((List.range 8).map g).sum = g 0 + g 1 + g 2 + g 3 + g 4 + g 5 + g 6 + g 7 := by
  simp [List.range_succ, Nat.add_assoc]

theorem slotNibbles_eq (s : State) : slotNibbles s = slotNibble s 0 + 16 * slotNibble s 1 + 256 * slotNibble s 2 + 4096 * slotNibble s 3
    + 65536 * slotNibble s 4 + 1048576 * slotNibble s 5 + 16777216 * slotNibble s 6 + 268435456 * slotNibble s 7 := by
  rw [slotNibbles, sum_range_eight]
  generalize slotNibble s = f
  omega

theorem zeros_eight : zeros 8 = leInt 4 0 ++ leInt 4 0 := by decide

/-- Bytes 28 to 63 of the snapshot, in which the wall map has no part (R186). -/
def snapshotRest (s : State) (l : LaneId) : List Byte :=
  le 4 s.exposure.seq.toNat ++ leInt 4 s.odo.p ++ leInt 4 s.odo.w1 ++ leInt 4 s.odo.w2 ++ le 2 s.odo.phase1
    ++ le 2 s.odo.phase2 ++ le 2 s.odo.slipCount ++ le 2 s.intake.stray ++ le 4 (slotNibbles s) ++ le 2 (activityFlags s l) ++ zeros 10

/-- The snapshot of a part whose map is bound (R186). -/
theorem snapshotRecord_of_bound {s : State} {l k : LaneId} (bound : s.map.lane = some k) :
    snapshotRecord s l = le 4 (s.lane l).snapSeq.toNat ++
      ([BitVec.ofNat 8 (s.lane l).state.code, BitVec.ofNat 8 s.supply.state.code, BitVec.ofNat 8 k.val, BitVec.ofNat 8 s.map.sinks.length]
        ++ ((match s.map.range with
          | some r => leInt 4 r.front ++ leInt 4 r.top
          | none => zeros 8)
        ++ (le 2 (openRows s.map) ++ ([BitVec.ofNat 8 s.map.markers.length, BitVec.ofNat 8
          (flagAt 0 s.map.range.isSome + flagAt 1 s.trigger.armed.isSome + flagAt 2 s.trigger.pending + flagAt 3 s.map.starving
            + flagAt 4 s.map.holdRowUsed + flagAt 5 s.headBusy)]
        ++ (le 4 (remainingCapacity s.map) ++ snapshotRest s l))))) := by
  have map : snapshotMap s = s.map := if_pos (by simp [bound])
  unfold snapshotRecord
  simp only [snapshotFlags, map, bound, snapshotRest, le_one, List.append_assoc, List.cons_append, List.nil_append,
    Option.isSome_some, Bool.true_and]
  cases s.map.range with
  | none => simp only [zeros_eight, List.append_assoc]
  | some r => simp only [List.append_assoc]

theorem openRows_unbound (m : WallMap) : openRows m.unbound = 0 := by simp [openRows, WallMap.unbound, emptyRows]

/-- The snapshot of a part whose map is unbound (R186). -/
theorem snapshotRecord_of_unbound {s : State} {l : LaneId} (unbound : s.map.lane = none) :
    snapshotRecord s l = le 4 (s.lane l).snapSeq.toNat ++
      ([BitVec.ofNat 8 (s.lane l).state.code, BitVec.ofNat 8 s.supply.state.code, 0xFF#8, 0#8]
        ++ (zeros 8 ++ (le 2 0 ++ ([0#8, BitVec.ofNat 8 (flagAt 5 s.headBusy)] ++ (le 4 0 ++ snapshotRest s l))))) := by
  have map : snapshotMap s = { s.map.unbound with starving := false, holdRowUsed := false } := if_neg (by simp [unbound])
  have rows : openRows { s.map.unbound with starving := false, holdRowUsed := false } = 0 := openRows_unbound s.map
  have capacity : remainingCapacity { s.map.unbound with starving := false, holdRowUsed := false } = 0 := rfl
  have flags : snapshotFlags s = flagAt 5 s.headBusy := by
    rw [snapshotFlags, map]
    simp [flagAt, WallMap.unbound]
  unfold snapshotRecord
  simp only [map, rows, capacity, flags]
  simp only [snapshotRest, zeros_eight, le_one, List.append_assoc, List.cons_append, List.nil_append, WallMap.unbound, List.length_nil]

theorem snapshotRecord_length (s : State) (l : LaneId) : (snapshotRecord s l).length = 64 := by
  unfold snapshotRecord
  simp

theorem snapAddr_eq (a : Word) (l : LaneId) : laneBlockAddr a l + 96 = a + BitVec.ofNat 32 (352 + 256 * l.val) := by
  rw [show (96 : Word) = BitVec.ofNat 32 96 from rfl, laneBlockAddr_add]
  congr 2
  omega

theorem length_flatMap_of_const {α β : Type} {f : α → List β} {n : Nat} (const : ∀ x, (f x).length = n) (xs : List α) :
    (xs.flatMap f).length = xs.length * n := by
  induction xs with
  | nil => simp
  | cons x xs ih => simp [ih, const, Nat.add_mul, Nat.add_comm]

theorem dumpRecord_length {m : WallMap} (law : MapLaw m) : (dumpRecord m).length = 16640 := by
  have row (q : Option RowRecord) : (dumpRow q).length = 32 := by cases q <;> simp [dumpRow]
  have sink (j : Nat) : (dumpSink m j).length = 16 := by unfold dumpSink; split <;> simp
  have marker (j : Nat) : (dumpMarker m j).length = 8 := by unfold dumpMarker; split <;> simp
  rw [dumpRecord, List.length_append, List.length_append, length_flatMap_of_const row, length_flatMap_of_const sink,
    length_flatMap_of_const marker, law.slots, List.length_range, List.length_range]
  rfl

theorem ruleSnap_of_free {l : LaneId} {s : State} (free : s.port.inspection = none) :
    ruleSnap l s = takeSnapshot l (s.answered .accepted) := by
  simp [ruleSnap, free, State.withResult_eq_answered]

theorem ruleDump_of_held {l : LaneId} {s : State} (held : (s.lane l).state = .held) (free : s.port.inspection = none) :
    ruleDump l s = takeDump l (s.answered .accepted) := by
  simp [ruleDump, held, free, State.withResult_eq_answered]

/-- Settles O19. -/
theorem inspectionOrders : Obligations.InspectionOrders := by
  intro l s free x m bound bit u at_ nibble record row marked sink marker dump
  have snap (ready : s.port.config ≠ .loading) : exec (.snap l) s = .next (ruleSnap l s) := by
    rw [← screened_exempt_of_not_loading ready (ruleSnap l)]
    exact congrArg Host.Outcome.next (portAccess_of_portFree free (.snap l))
  have dumpRun (run : OrdersRun s) : exec (.dump l) s = .next (ruleDump l s) := by
    rw [← screened_of_configured run.2 false (ruleDump l)]
    exact congrArg Host.Outcome.next (portAccess_of_portFree run.1 (.dump l))
  have nibbles (i : Nat) : slotNibble u i = nibble i := by
    show (match s.slots[i]? with
      | some y => y.state.code + flagAt 3 y.inUse
      | none => 15) = nibble i
    cases h : s.slots[i]? with
    | none => simp only [nibble, h]
    | some y => simp only [nibble, h]; cases y.state <;> rfl
  have lane : u.lane l = { x with snapSeq := x.snapSeq + 1 } := State.withLane_lane_same ..
  have supply : u.supply.state.code = (match s.supply.state with
      | .normal => 0
      | .derate => 1
      | .cutoff => 2) := by
    show s.supply.state.code = _
    cases s.supply.state <;> rfl
  have activity : activityFlags u l = bit 0 (decide (x.state = .starting ∧ x.stage = .blockRead)) + bit 1 (decide (x.state = .running))
        + bit 2 (decide (x.state = .suspended)) + bit 3 x.haltPending + bit 4 x.resumePending + bit 5 x.holdPending
        + bit 6 (decide (x.state = .held)) + bit 7 (decide (m.lane = some l)) + bit 8 (decide (x.state = .clearing)) := by
    rw [activityFlags, lane]; rfl
  have snapshot : snapshotRecord u l = le 4 (x.snapSeq + 1).toNat ++ record := by
    have busy : s.headBusy = s.exposure.inFlight.isSome := by simp [State.headBusy, State.headFree]
    cases hl : s.map.lane with
    | none =>
      have flags : flagAt 5 u.headBusy
          = bit 0 false + bit 1 false + bit 2 false + bit 3 false + bit 4 false + bit 5 s.exposure.inFlight.isSome := by
        rw [← busy]; simp only [bit, Bool.false_eq_true, if_false, Nat.zero_add]; rfl
      rw [snapshotRecord_of_unbound (s := u) hl, flags, lane, supply]
      simp only [record, m, bound, hl, snapshotRest, slotNibbles_eq, nibbles, activity, Option.isSome_none, Bool.false_and,
        if_false, Bool.false_eq_true, List.append_assoc, List.cons_append, List.nil_append]
      rfl
    | some k =>
      rw [snapshotRecord_of_bound (s := u) hl, lane, supply, show u.headBusy = s.exposure.inFlight.isSome from busy,
        show u.map = s.map from rfl]
      simp only [record, m, bound, hl, snapshotRest, slotNibbles_eq, nibbles, activity, Option.isSome_some, Bool.true_and,
        if_true, List.append_assoc, List.cons_append, List.nil_append]
      cases s.map.range with
      | none => rfl
      | some r => simp only [List.append_assoc]; rfl
  have dumped : dumpRecord m = dump := by
    have rows : dumpRow = row := funext fun q => by cases q <;> rfl
    have marks (j : Nat) : markerState m j = marked j := by
      simp only [markerState, marked]
      cases m.markers[j]? with
      | none => rfl
      | some q => cases h : q.target <;> simp [h]
    have sinks : dumpSink m = sink := funext fun j => by
      simp only [dumpSink, sink, marks]
      cases m.sinks[j]? <;> rfl
    have markers : dumpMarker m = marker := funext fun j => by
      simp only [dumpMarker, marker]
      cases m.markers[j]? with
      | none => rfl
      | some q => cases h : q.target <;> (simp only [h]; rfl)
    rw [dumpRecord, rows, sinks, markers]
  refine ⟨fun ready none => ?_, ?_, fun ready busy => ?_, fun configured held none => ?_, fun law => ?_, fun configured busy => ?_, rfl⟩
  · rw [snap ready, ruleSnap_of_free none]
    have taken : takeSnapshot l (s.answered .accepted) = { u with port.inspection := some ⟨.snap,
        [(laneBlockAddr s.port.anchor l + 96 + 4, (snapshotRecord u l).drop 4), (laneBlockAddr s.port.anchor l + 96, (snapshotRecord u l).take 4)]⟩ } := rfl
    rw [taken, snapshot, List.drop_left' (by simp), List.take_left' (by simp), snapAddr_eq]
  · have length := congrArg List.length snapshot
    rw [snapshotRecord_length, List.length_append, le_length] at length
    omega
  · rw [snap ready]; exact congrArg _ (if_pos (by simpa [Option.isSome_iff_ne_none] using busy))
  · rw [dumpRun ⟨free, configured⟩, ruleDump_of_held held none, takeDump, ← dumped]; rfl
  · rw [← dumped, dumpRecord_length law]
  · rw [dumpRun ⟨free, configured⟩]
    exact congrArg _ (if_pos (by simpa [Option.isSome_iff_ne_none] using busy))

end Sys2Proof.Machine

/-! SUPPORT. The settings load and the records that the part reads (R5, R6, R51, R90), and the statements about them. -/

namespace Sys2Proof.Machine

set_option Elab.async false

/-! ## Fields of a block -/

theorem field_succ (bs : List Byte) (i n : Nat) : field bs i (n + 1) = byteOf bs i + 256 * field bs (i + 1) n := by
  unfold field byteOf
  rw [← List.drop_drop]
  cases h : bs.drop i with
  | nil => simp [fromLe, List.drop_eq_nil_iff.mp h]
  | cons b rest =>
    have first : bs.getD i 0 = b := by simp [List.getD, ← List.head?_drop, h]
    rw [first, List.take_succ_cons, List.drop_succ_cons, List.drop_zero]
    rfl

theorem field_one (bs : List Byte) (i : Nat) : field bs i 1 = byteOf bs i := by
  rw [field_succ, show field bs (i + 1) 0 = 0 from rfl]; omega

theorem field_two (bs : List Byte) (i : Nat) : field bs i 2 = halfOf bs i := by
  rw [field_succ, field_one, halfOf]

theorem field_four (bs : List Byte) (i : Nat) : field bs i 4 = wordOf bs i := by
  simp only [field_succ _ _ 3, field_succ _ _ 2, field_two, wordOf, halfOf, Nat.add_assoc, Nat.reduceAdd]; omega

theorem signed32_wordOf (bs : List Byte) (i : Nat) : signed32 (wordOf bs i) = signedOf bs i := rfl

/-! ## The code of the first test that fails -/

/-- The code of the first of some coded tests that fails. -/
def firstFailing {β : Type} (tests : List (Bool × β)) : Option β := (tests.find? (fun t => !t.1)).map (·.2)

theorem firstFailing_cons {β : Type} (p : Prop) [Decidable p] (code : β) (tests : List (Bool × β)) :
    firstFailing ((decide p, code) :: tests) = if p then firstFailing tests else some code := by
  by_cases h : p <;> simp [firstFailing, h]

theorem Settings.error_eq_firstFailing (c : Settings) : c.error = (firstFailing c.tests).getD 0 := by
  unfold Settings.error firstFailing; cases c.tests.find? (fun t => !t.1) <;> rfl

theorem getD_firstFailing_cons {p q : Prop} [Decidable p] [Decidable q] {code r : Nat} {tests : List (Bool × Nat)}
    (fails : ¬ p ↔ q) (rest : (firstFailing tests).getD 0 = r) :
    (firstFailing ((decide p, code) :: tests)).getD 0 = if q then code else r := by
  rw [firstFailing_cons]
  by_cases h : p
  · rw [if_pos h, if_neg (fun hq => fails.mpr hq h), rest]
  · rw [if_neg h, if_pos (fails.mp h)]; rfl

theorem Settings.error_eq (c : Settings) : c.error =
    (if ¬ (3 ≤ c.slotCount ∧ c.slotCount ≤ 8) then 2
    else if c.slotArea % 4096 ≠ 0 then 3
    else if ¬ (256 ≤ c.ws ∧ c.ws ≤ 2048 ∧ c.ws % 16 = 0) then 4
    else if ¬ (256 ≤ c.hs ∧ c.hs ≤ 2048 ∧ c.hs % 16 = 0) then 5
    else if c.timeoutMs = 0 then 6
    else if 2 < c.mode1 then 8
    else if 2 < c.mode2 ∨ (c.mode1 = 0 ∧ c.mode2 = 0) then 9
    else if 3 < c.filterCode then 10
    else if c.scale = 0 then 11
    else if 65535 < c.slipLimit then 12
    else if 1 < c.zeroFlag then 13
    else if 7 < c.derateCode then 14
    else if 7 < c.cutoffCode ∨ 18000 + 500 * c.derateCode ≤ 16000 + 500 * c.cutoffCode then 15
    else if c.ledCap = 0 then 16
    else if c.timeCeiling < 20 ∨ 10000 < c.timeCeiling then 17
    else 0) := by
  rw [Settings.error_eq_firstFailing, Settings.tests]
  iterate 15 refine getD_firstFailing_cons (by omega) ?_
  rfl

theorem Settings.error_ranges (c : Settings) : c.error ≤ 17 ∧ c.error ≠ 1 ∧ c.error ≠ 7 := by
  have coded : ∀ t ∈ c.tests, t.2 ≤ 17 ∧ t.2 ≠ 1 ∧ t.2 ≠ 7 := by simp [Settings.tests]
  unfold Settings.error
  split
  · next t found => exact coded t (List.mem_of_find?_eq_some found)
  · decide

theorem Settings.inRange_iff (c : Settings) : c.error = 0 ↔
    (3 ≤ c.slotCount ∧ c.slotCount ≤ 8) ∧ c.slotArea % 4096 = 0
      ∧ (256 ≤ c.ws ∧ c.ws ≤ 2048 ∧ c.ws % 16 = 0) ∧ (256 ≤ c.hs ∧ c.hs ≤ 2048 ∧ c.hs % 16 = 0) ∧ 1 ≤ c.timeoutMs
      ∧ c.mode1 ≤ 2 ∧ c.mode2 ≤ 2 ∧ (c.mode1 ≠ 0 ∨ c.mode2 ≠ 0) ∧ c.filterCode ≤ 3 ∧ 1 ≤ c.scale
      ∧ c.slipLimit ≤ 65535 ∧ c.zeroFlag ≤ 1 ∧ c.derateCode ≤ 7
      ∧ (c.cutoffCode ≤ 7 ∧ Config.cutoffMillivolts c.cutoffCode < Config.derateMillivolts c.derateCode)
      ∧ 1 ≤ c.ledCap ∧ 20 ≤ c.timeCeiling ∧ c.timeCeiling ≤ 10000 := by
  rw [Settings.error_eq_zero_iff]
  simp only [Settings.tests, List.forall_mem_cons, decide_eq_true_eq, List.not_mem_nil, false_implies, implies_true, and_true,
    Config.cutoffMillivolts, Config.derateMillivolts]
  omega

theorem ite_ite_and {α : Type} (p q : Prop) [Decidable p] [Decidable q] (a b : α) :
    (if p then if q then a else b else b) = if p ∧ q then a else b := by
  by_cases hp : p <;> by_cases hq : q <;> simp [hp, hq]

theorem Geometry.checkCode_eq (g : Geometry) (ws hs : Nat) : g.checkCode ws hs =
    if 100000 ≤ g.radius ∧ g.radius ≤ 800000 ∧ 2 * g.ex.natAbs ≤ g.radius ∧ 2 * g.ey.natAbs ≤ g.radius
      ∧ g.roll ≤ 4095 ∧ (g.width = 256 ∨ g.width = 512 ∨ g.width = 1024 ∨ g.width = 2048) ∧ 10000 ≤ g.zNear
      ∧ g.zNear < g.zFar ∧ g.zFar ≤ 4000000 ∧ 100 ≤ g.rowPitch ∧ g.rowPitch ≤ 10000 then
      if g.windowDepth ≤ 512 then
        if g.ws = ws ∧ g.hs = hs then
          if g.cx + 1 ≤ 16 * g.ws ∧ g.cy + 1 ≤ 16 * g.hs ∧ 10000 ≤ g.dRef ∧ g.dRef ≤ 2000000 ∧ 1 ≤ g.baseGain
            ∧ 256 ≤ g.gainLimit then none
          else some .operand
        else some .sourceSize
      else some .depth
    else some .operand := by
  rw [show g.checkCode ws hs = firstFailing (g.tests ws hs) from rfl, Geometry.tests]
  simp only [firstFailing_cons, ite_ite_and, offsetWithin, and_assoc]
  rfl

theorem le_ceilDiv_mul (a : Int) {b : Int} (pos : 0 < b) : a ≤ ceilDiv a b * b := by
  have := Int.ediv_mul_le (-a) (by omega : b ≠ 0)
  rw [ceilDiv, Int.neg_mul]
  omega

theorem ceilDiv_sub_one_mul_lt (a : Int) {b : Int} (pos : 0 < b) : (ceilDiv a b - 1) * b < a := by
  have := Int.lt_ediv_add_one_mul_self (-a) pos
  have below : (-(-a / b) - 1) * b = -((-a / b + 1) * b) := by rw [← Int.neg_mul, Int.neg_add, Int.sub_eq_add_neg]
  rw [ceilDiv, below]
  omega

/-- Settles O23. -/
theorem recordsInRange : Obligations.RecordsInRange := by
  unfold Obligations.RecordsInRange
  refine ⟨fun bs => ?_, rfl, fun c => ⟨c.inRange_iff, c.error_ranges.1, c.error_ranges.2.1, c.error_ranges.2.2, c.error_eq⟩,
    fun bs => ?_, fun g ws hs => ?_⟩
  · simp only [Settings.ofBytes, field_one, field_two, field_four, and_self]
  · simp only [Geometry.ofBytes, field_two, field_four, signed32_wordOf, and_self]
  · intro first
    refine ⟨?_, fun wrong => ?_, fun fits deep => ?_, fun fits depth differs => ?_, fun fits depth w h wrong => ?_, fun fits => ?_⟩
    · rw [g.checkCode_eq]
      constructor
      · intro passes
        split at passes <;> try contradiction
        next fits =>
        split at passes <;> try contradiction
        next depth =>
        split at passes <;> try contradiction
        next size =>
        split at passes <;> try contradiction
        next rest =>
        obtain ⟨rfl, rfl⟩ := size
        exact ⟨fits, depth, rfl, rfl, rest⟩
      · rintro ⟨fits, depth, rfl, rfl, rest⟩
        rw [if_pos fits, if_pos depth, if_pos ⟨rfl, rfl⟩, if_pos rest]
    · rw [g.checkCode_eq, if_neg wrong]
    · rw [g.checkCode_eq, if_pos fits, if_neg (by omega)]
    · rw [g.checkCode_eq, if_pos fits, if_pos depth, if_neg (by omega)]
    · subst w h
      rw [g.checkCode_eq, if_pos fits, if_pos depth, if_pos ⟨rfl, rfl⟩, if_neg wrong]
    · have pitch : 0 < (g.rowPitch : Int) := by
        obtain ⟨_, _, _, _, _, _, _, _, _, low, _⟩ := fits
        omega
      exact ⟨le_ceilDiv_mul _ pitch, ceilDiv_sub_one_mul_lt _ pitch⟩

/-! ## The end of a settings load -/

theorem evalTrigger_of_disarmed {s : State} (disarmed : s.trigger.armed = none) : evalTrigger s = s := by
  unfold evalTrigger; rw [disarmed]

theorem offerPosition_of_disarmed {s : State} (disarmed : s.trigger.armed = none) (o : Odometer) :
    offerPosition o s = { s with odo := o } := by
  unfold offerPosition
  split
  · rfl
  · exact evalTrigger_of_disarmed disarmed

/-- Settles O21. -/
theorem settingsLoadEnds : Obligations.SettingsLoadEnds := by
  unfold Obligations.SettingsLoadEnds
  intro s timers loading
  have ends (read : ReadEnd) : exec (.settingsLoadEnd read timers) s = execSettingsLoadEnd read timers s := rfl
  have arrives (stores : Stores) :
      execSettingsLoadEnd (.arrived stores) timers s = .next (checkSettings timers (s.withStores stores)) := if_pos loading
  refine ⟨if_pos loading, fun stores => ?_⟩
  intro m c
  refine ⟨fun refused => ?_, fun inRange disarmed => ?_⟩
  · rw [ends, arrives]
    exact congrArg Host.Outcome.next (if_neg refused)
  · rw [ends, arrives]
    have taken : checkSettings timers (s.withStores stores) = applySettings c timers (s.withStores stores) := if_pos inRange
    have disarmed' : (takeSettings c ((s.withStores stores).withLoadResult .configured 0)).trigger.armed = none := disarmed
    rw [taken, applySettings, offerPosition_of_disarmed disarmed']
    rfl

/-! ## The odometer at the end of a load -/

/-- The two halves of a resync (R43). -/
theorem resync_of_slipped {o : Odometer} (h : o.slipped = true) :
    resync o = { o with w1 := o.p, w2 := o.p, slipCount := sat16 o.slipCount 1, slipFlag := true } := if_pos h

theorem resync_of_not_slipped {o : Odometer} (h : o.slipped = false) : resync o = o := if_neg (by simp [h])

theorem WheelMode.ofCode_eq_off_iff (n : Nat) : WheelMode.ofCode n = .off ↔ n = 0 := by
  unfold WheelMode.ofCode
  split <;> simp_all

theorem alignSingle_of_second_off {o : Odometer} (on : o.mode1 ≠ .off) (off : o.mode2 = .off) :
    alignSingle o = { o with w1 := o.p } := by
  unfold alignSingle; split <;> simp_all

theorem alignSingle_of_first_off {o : Odometer} (off : o.mode1 = .off) (on : o.mode2 ≠ .off) :
    alignSingle o = { o with w2 := o.p } := by
  unfold alignSingle; split <;> simp_all

theorem alignSingle_of_both {o : Odometer} (on1 : o.mode1 ≠ .off) (on2 : o.mode2 ≠ .off) : alignSingle o = o := by
  unfold alignSingle; split <;> simp_all

/-- The odometer of a load with its settings taken and, on the zero flag, its counts zeroed; its error counts cleared (R51). -/
def takenOdometer (c : Settings) (o : Odometer) : Odometer :=
  { o with
    mode1 := WheelMode.ofCode c.mode1, mode2 := WheelMode.ofCode c.mode2, filterCode := c.filterCode, scale := c.scale
    slipLimit := c.slipLimit
    pair1 := if WheelMode.ofCode c.mode1 = o.mode1 then o.pair1 else (o.accepted.a1, o.accepted.b1)
    pair2 := if WheelMode.ofCode c.mode2 = o.mode2 then o.pair2 else (o.accepted.a2, o.accepted.b2)
    w1 := if c.zeroFlag = 1 then 0 else o.w1, w2 := if c.zeroFlag = 1 then 0 else o.w2
    p := if c.zeroFlag = 1 then 0 else o.p, phase1 := 0, phase2 := 0, slipCount := 0, slipFlag := false, saturated := false }

theorem loadOdometer_of_kept_filter {c : Settings} {o : Odometer} (timers : List (Edge × Nat)) (kept : o.filterCode = c.filterCode) :
    loadOdometer c timers o = resync (alignSingle (clearCounts (zeroCounts c.zeroFlag (takeWheelSettings c o)))) := by
  simp only [loadOdometer, if_pos kept]

theorem loadOdometer_of_changed_filter {c : Settings} {o : Odometer} (timers : List (Edge × Nat))
    (changed : o.filterCode ≠ c.filterCode) : loadOdometer c timers o =
      resync (alignSingle (clearCounts (zeroCounts c.zeroFlag (acceptOverdue timers (takeWheelSettings c o))))) := by
  simp only [loadOdometer, if_neg changed]

theorem loadOdometer_eq_aligned {c : Settings} {o : Odometer} (timers : List (Edge × Nat)) (same : o.filterCode = c.filterCode) :
    loadOdometer c timers o = resync (alignSingle (takenOdometer c o)) := by
  have zeroed (q : Odometer) : clearCounts (zeroCounts c.zeroFlag q) = { q with
      w1 := if c.zeroFlag = 1 then 0 else q.w1, w2 := if c.zeroFlag = 1 then 0 else q.w2, p := if c.zeroFlag = 1 then 0 else q.p
      phase1 := 0, phase2 := 0, slipCount := 0, slipFlag := false, saturated := false } := by
    by_cases flag : c.zeroFlag = 1 <;> simp [clearCounts, zeroCounts, flag]
  rw [loadOdometer_of_kept_filter timers same, zeroed]
  rfl

/-- What a load that leaves the filter code as it was makes of the counts (R51 items 4 and 5). -/
theorem loadOdometer_eq {c : Settings} {o q : Odometer} (timers : List (Edge × Nat)) (same : o.filterCode = c.filterCode)
    (one : c.mode1 ≠ 0 ∨ c.mode2 ≠ 0) (taken : q = takenOdometer c o) : loadOdometer c timers o =
      if c.mode2 = 0 then { q with w1 := q.p }
      else if c.mode1 = 0 then { q with w2 := q.p }
      else if 0 < c.slipLimit ∧ c.slipLimit < (q.w1 - q.w2).natAbs then
        { q with w1 := q.p, w2 := q.p, slipCount := 1, slipFlag := true }
      else q := by
  have off1 : q.mode1 = .off ↔ c.mode1 = 0 := by rw [taken]; exact WheelMode.ofCode_eq_off_iff _
  have off2 : q.mode2 = .off ↔ c.mode2 = 0 := by rw [taken]; exact WheelMode.ofCode_eq_off_iff _
  have limit : q.slipLimit = c.slipLimit := by rw [taken]; rfl
  have none : q.slipCount = 0 := by rw [taken]; rfl
  rw [loadOdometer_eq_aligned timers same, ← taken]
  by_cases second : c.mode2 = 0
  · have first : c.mode1 ≠ 0 := by omega
    rw [if_pos second, alignSingle_of_second_off (fun h => first (off1.mp h)) (off2.mpr second)]
    exact resync_of_off (.inr (off2.mpr second))
  rw [if_neg second]
  by_cases first : c.mode1 = 0
  · rw [if_pos first, alignSingle_of_first_off (off1.mpr first) (fun h => second (off2.mp h))]
    exact resync_of_off (.inl (off1.mpr first))
  rw [if_neg first, alignSingle_of_both (fun h => first (off1.mp h)) (fun h => second (off2.mp h))]
  have slipped : q.slipped = decide (0 < c.slipLimit ∧ c.slipLimit < (q.w1 - q.w2).natAbs) := by
    simp [Odometer.slipped, Odometer.bothEnabled, off1, off2, first, second, limit]
  by_cases apart : 0 < c.slipLimit ∧ c.slipLimit < (q.w1 - q.w2).natAbs
  · rw [if_pos apart]
    rw [resync_of_slipped (slipped.trans (decide_eq_true apart)), none]
    rfl
  · rw [if_neg apart]
    exact resync_of_not_slipped (slipped.trans (decide_eq_false apart))

/-- The settings of the odometer and its pins, which no accepted edge changes. -/
def Odometer.setup (o : Odometer) : WheelMode × WheelMode × Nat × Nat × Nat × PinLevels :=
  (o.mode1, o.mode2, o.filterCode, o.scale, o.slipLimit, o.pins)

theorem countWheel_setup (w : Wheel) (d : Int) (o : Odometer) : (countWheel w d o).setup = o.setup := by
  simp only [countWheel, resync]
  split
  · split <;> cases w <;> rfl
  · rfl

theorem applyDecoded_setup (w : Wheel) (o : Odometer) (d : Decoded) : (applyDecoded w o d).setup = o.setup := by
  cases d with
  | nothing => rfl
  | up => exact countWheel_setup w 1 o
  | down => exact countWheel_setup w (-1) o
  | error => cases w <;> rfl

theorem acceptLevels_setup (e : Edge) (o : Odometer) : (acceptLevels o e).setup = o.setup := by cases e <;> rfl

theorem takePair_setup (w : Wheel) (o : Odometer) : (takePair w o).setup = o.setup := by
  rw [← applyDecoded_setup w o (decodeChange o w (o.accepted.pair w))]
  cases w <;> rfl

theorem acceptEdge_setup (e : Edge) (o : Odometer) : (acceptEdge e o).setup = o.setup := by
  unfold acceptEdge
  split
  · rw [takePair_setup, acceptLevels_setup]
  · exact acceptLevels_setup e o

/-- Settings taken twice are settings taken once. -/
theorem takeWheelSettings_of_setup {c : Settings} {o q : Odometer} (same : q.setup = (takeWheelSettings c o).setup) :
    takeWheelSettings c q = q := by
  obtain ⟨mode1, mode2, filter, scale, limit, -⟩ :
      q.mode1 = WheelMode.ofCode c.mode1 ∧ q.mode2 = WheelMode.ofCode c.mode2 ∧ q.filterCode = c.filterCode ∧ q.scale = c.scale
        ∧ q.slipLimit = c.slipLimit ∧ q.pins = o.pins := by
    simpa [Odometer.setup, takeWheelSettings] using same
  unfold takeWheelSettings
  simp only [← mode1, ← mode2, ← filter, ← scale, ← limit, if_true]

/-- Overdue edges are accepted one after another, each judged against the one filter time. -/
theorem acceptOverdue_eq_foldl {code : Nat} {judge : Odometer → Edge × Nat → Odometer}
    (judges : ∀ q x, judge q x = if edgeDue q x.1 = true ∧ Config.filterTimeUs code ≤ x.2 then acceptEdge x.1 q else q) :
    ∀ (timers : List (Edge × Nat)) (o : Odometer), o.filterCode = code →
      acceptOverdue timers o = timers.foldl judge o ∧ (timers.foldl judge o).setup = o.setup
  | [], _, _ => ⟨rfl, rfl⟩
  | (e, held) :: rest, o, taken => by
    have kept : (acceptEdge e o).filterCode = code := by
      rw [← taken]; exact congrArg (fun x => x.2.2.1) (acceptEdge_setup e o)
    rw [List.foldl_cons, judges, acceptOverdue, taken]
    split
    · rw [← acceptEdge_setup e o]
      exact acceptOverdue_eq_foldl judges rest _ kept
    · exact acceptOverdue_eq_foldl judges rest _ taken

theorem edgeDue_single (o : Odometer) (i : Input) : edgeDue o (.single i) = true ↔ o.pins.level i ≠ o.accepted.level i :=
  decide_eq_true_iff

theorem edgeDue_both (o : Odometer) (w : Wheel) : edgeDue o (.both w) = true ↔
    o.pins.level w.inputA ≠ o.accepted.level w.inputA ∧ o.pins.level w.inputB ≠ o.accepted.level w.inputB := by
  simp [edgeDue, timerRunning]

theorem filterTimeUs_eq (code : Nat) :
    Config.filterTimeUs code = if code = 0 then 2 else if code = 1 then 8 else if code = 2 then 32 else 128 := by
  unfold Config.filterTimeUs
  split <;> simp_all

/-- Settles O22. -/
theorem odometerLoad : Obligations.OdometerLoad := by
  unfold Obligations.OdometerLoad
  refine ⟨fun c timers o inRange same => ?_, fun c timers o changed => ?_⟩
  · have one : c.mode1 ≠ 0 ∨ c.mode2 ≠ 0 := by
      obtain ⟨-, -, -, -, -, -, -, one, -⟩ := c.inRange_iff.mp inRange
      exact one
    rw [loadOdometer_eq timers same one rfl]
    by_cases second : c.mode2 = 0
    · rw [if_pos second]
      exact ⟨rfl, rfl, rfl, rfl, rfl, rfl, rfl, rfl, rfl, rfl, rfl, rfl, rfl, fun _ => ⟨rfl, rfl, rfl, rfl⟩,
        fun first => absurd second (by omega), fun _ on => absurd second on⟩
    rw [if_neg second]
    by_cases first : c.mode1 = 0
    · rw [if_pos first]
      exact ⟨rfl, rfl, rfl, rfl, rfl, rfl, rfl, rfl, rfl, rfl, rfl, rfl, rfl, fun off => absurd off second,
        fun _ => ⟨rfl, rfl, rfl, rfl⟩, fun on => absurd first on⟩
    rw [if_neg first]
    split
    · next apart =>
      exact ⟨rfl, rfl, rfl, rfl, rfl, rfl, rfl, rfl, rfl, rfl, rfl, rfl, rfl, fun off => absurd off second,
        fun off => absurd off first, fun _ _ => ⟨fun _ => ⟨rfl, rfl, rfl, rfl⟩, fun near => absurd apart near⟩⟩
    · next near =>
      exact ⟨rfl, rfl, rfl, rfl, rfl, rfl, rfl, rfl, rfl, rfl, rfl, rfl, rfl, fun off => absurd off second,
        fun off => absurd off first, fun _ _ => ⟨fun apart => absurd apart near, fun _ => ⟨rfl, rfl, rfl, rfl⟩⟩⟩
  · intro m1 m2 taken time inputs runs judged
    have runs_iff (q : Odometer) (e : Edge) : runs q e ↔ edgeDue q e = true := by
      cases e with
      | single i => simp [runs, inputs, edgeDue_single]
      | both w => cases w <;> simp [runs, inputs, edgeDue_both, Wheel.inputA, Wheel.inputB]
    have time_eq : time = Config.filterTimeUs c.filterCode := (filterTimeUs_eq c.filterCode).symm
    obtain ⟨folded, setup⟩ : acceptOverdue timers taken = judged ∧ judged.setup = taken.setup :=
      acceptOverdue_eq_foldl (code := c.filterCode)
        (fun q x => ite_congr (propext (and_congr (runs_iff q x.1) (by rw [time_eq]))) (fun _ => rfl) fun _ => rfl) timers taken rfl
    have filter : judged.filterCode = c.filterCode := congrArg (fun x => x.2.2.1) setup
    refine ⟨?_, filter, congrArg (fun x => x.1) setup, congrArg (fun x => x.2.1) setup,
      congrArg (fun x => x.2.2.2.2.2) setup, fun none => by simp only [judged, none, List.foldl_nil]⟩
    have again : takeWheelSettings c judged = judged := takeWheelSettings_of_setup (o := o) setup
    rw [loadOdometer_of_changed_filter timers changed, loadOdometer_of_kept_filter [] filter, again, ← folded]
    rfl

end Sys2Proof.Machine

/-! SUPPORT. Lane-block reads, flow steps, holds reached and the end of CLEARING (R7, R11, R29, R30, R97, R179), and the statements about them. -/

namespace Sys2Proof.Machine

set_option Elab.async false

/-! ## Step boundaries, and a step about to be taken -/

section
variable {l : LaneId} {s : State}

theorem State.withLane_self (s : State) (l : LaneId) : s.withLane l (s.lane l) = s := by
  have same : s.lanes.set l (s.lanes.get l) = s.lanes := Four.ext_get fun m => by
    rw [Four.get_set]; split
    · next h => rw [h]
    · rfl
  exact congrArg (fun q => ({ s with lanes := q } : State)) same

theorem boundary_of_halt (halt : (s.lane l).haltPending = true) : boundary l s = endProgram l .halted none s := if_pos halt

theorem boundary_of_hold (halt : (s.lane l).haltPending = false) (hold : (s.lane l).holdPending = true) :
    boundary l s = s.atStage l .boundary := by
  simp only [boundary, halt, hold, if_true]
  rfl

theorem boundary_of_free (halt : (s.lane l).haltPending = false) (hold : (s.lane l).holdPending = false) :
    boundary l s = s.atStage l .fetch := by
  simp only [boundary, halt, hold]
  rfl

theorem taking_of_taking {w : StepWord} {code : Byte} (h : Taking s l w code) (f : StepWord → State → State) :
    taking l code s f = .next (f w (s.took l)) := by
  obtain ⟨stage, here, running⟩ := h
  simp only [taking, stage, here, running]
  rfl

@[simp] theorem State.took_lane (s : State) (l : LaneId) :
    (s.took l).lane l = { s.lane l with holdPass := false, afterJump := false } := State.withLane_lane_same ..

/-! ## The lane-block read -/

theorem leaveQueue_of_absent (absent : ∀ c, l ∉ s.port.queues.get c) : leaveQueue l s = s := by
  have same : s.port.queues.map (fun q => q.filter (fun m => decide (m ≠ l))) = s.port.queues := Four.ext_get fun c => by
    rw [Four.get_map, List.filter_eq_self]
    exact fun m hm => decide_eq_true fun e => absent c (e ▸ hm)
  exact congrArg (fun q => ({ s with port.queues := q } : State)) same

theorem takeClass_of_absent (none : (s.lane l).statusPending = false) (absent : ∀ c, l ∉ s.port.queues.get c) (c : LaneId) :
    takeClass l c s = s.withLane l { s.lane l with cls := c } := by
  by_cases same : (s.lane l).cls = c
  · rw [takeClass, if_pos same, ← same]
    exact (State.withLane_self s l).symm
  · rw [takeClass, if_neg same, leaveQueue_of_absent absent]
    exact if_neg (by simp [none])

theorem takeLaneBlock_eq (none : (s.lane l).statusPending = false) (absent : ∀ c, l ∉ s.port.queues.get c) {b : LaneBlock}
    (read : LaneBlock.ofBytes (s.mem.read (laneBlockAddr s.port.anchor l) 16) = b) :
    takeLaneBlock l s =
      let t := s.withLane l { s.lane l with
        programAddr := b.programAddr, lastStep := b.programAddr, cls := b.cls, options := b.options, holdRow := b.holdRow
        dumpAddr := b.dumpAddr }
      if b.programAddr.toNat % 32 ≠ 0 then endProgram l .check (some .operand) t else boundary l t := by
  simp only [takeLaneBlock, read, takeClass_of_absent none absent, State.setLane_withLane]
  rfl

theorem exec_laneBlockReadEnd_faulted (stage : (s.lane l).stage = .blockRead) :
    exec (.laneBlockReadEnd l .faulted) s = .next (blockReadFault l s) := by
  rw [show exec (.laneBlockReadEnd l .faulted) s = execLaneBlockReadEnd l .faulted s from rfl]
  simp only [execLaneBlockReadEnd, stage]

theorem exec_laneBlockReadEnd_arrived (stage : (s.lane l).stage = .blockRead) (stores : Stores) :
    exec (.laneBlockReadEnd l (.arrived stores)) s = .next (takeLaneBlock l (s.withStores stores)) := by
  rw [show exec (.laneBlockReadEnd l (.arrived stores)) s = execLaneBlockReadEnd l (.arrived stores) s from rfl]
  simp only [execLaneBlockReadEnd, stage]

theorem exec_laneBlockReadEnd_discarded (stage : (s.lane l).stage ≠ .blockRead) (discarding : (s.lane l).discarding = some .block) :
    exec (.laneBlockReadEnd l .faulted) s = .next (s.withLane l { s.lane l with discarding := none })
      ∧ ∀ stores, exec (.laneBlockReadEnd l (.arrived stores)) s
        = .next ({ s with mem := s.mem.afterStores stores }.withLane l { s.lane l with discarding := none }) := by
  have ends (read : ReadEnd) : exec (.laneBlockReadEnd l read) s = execLaneBlockReadEnd l read s := rfl
  simp only [ends]
  unfold execLaneBlockReadEnd
  split
  · contradiction
  · exact ⟨rfl, fun _ => rfl⟩
  · next other => exact (other discarding).elim

end

theorem wordOf_lt (bs : List Byte) (i : Nat) : wordOf bs i < 2 ^ 32 := by
  rw [← field_four]; exact field_lt bs i 4

theorem LaneBlock.ofBytes_fields (bs : List Byte) :
    (LaneBlock.ofBytes bs).programAddr.toNat = wordOf bs 0 ∧ (LaneBlock.ofBytes bs).cls.val = byteOf bs 4 % 4
      ∧ (LaneBlock.ofBytes bs).holdRow = signedOf bs 8 ∧ (LaneBlock.ofBytes bs).dumpAddr.toNat = wordOf bs 12 / 16 * 16 := by
  have first := wordOf_lt bs 0
  have last := wordOf_lt bs 12
  simp only [LaneBlock.ofBytes, field_one, field_four, signed32_wordOf, BitVec.toNat_ofNat, Fin.ofNat]
  refine ⟨Nat.mod_eq_of_lt first, trivial, trivial, Nat.mod_eq_of_lt ?_⟩
  omega

/-- Settles O24. -/
theorem laneBlockReadEnds : Obligations.LaneBlockReadEnds := by
  unfold Obligations.LaneBlockReadEnds
  refine ⟨fun bs => ?_, fun l s => ?_⟩
  · obtain ⟨program, cls, row, dump⟩ := LaneBlock.ofBytes_fields bs
    exact ⟨program, cls, rfl, rfl, rfl, rfl, rfl, row, dump⟩
  intro x
  refine ⟨fun stage => exec_laneBlockReadEnd_faulted stage, fun stores stage none absent => ?_, fun stage discarding =>
    exec_laneBlockReadEnd_discarded stage discarding⟩
  intro m b y u
  have ends : exec (.laneBlockReadEnd l (.arrived stores)) s
      = .next (if b.programAddr.toNat % 32 ≠ 0 then endProgram l .check (some .operand) (u.withLane l y) else boundary l (u.withLane l y)) := by
    rw [exec_laneBlockReadEnd_arrived stage]
    exact congrArg Host.Outcome.next (takeLaneBlock_eq (s := u) none absent rfl)
  have lane : (u.withLane l y).lane l = y := State.withLane_lane_same ..
  rw [ends]
  refine ⟨fun misaligned => ?_, fun aligned halt => ?_, fun aligned halt hold => ?_⟩
  · rw [if_pos misaligned]
  · rw [if_neg (not_not_intro aligned), boundary_of_halt (by rw [lane]; exact halt)]
  · rw [if_neg (not_not_intro aligned), boundary_of_free (by rw [lane]; exact halt) (by rw [lane]; exact hold), State.atStage, lane,
      State.withLane_withLane]

/-! ## JUMP, STOP and POSE -/

theorem poseAllowed_iff (c : Context) (ex ey : Int) (roll : Nat) : poseAllowed c ex ey roll = true ↔
    c.geometryValid = true ∧ 2 * ex.natAbs ≤ c.geometry.radius ∧ 2 * ey.natAbs ≤ c.geometry.radius ∧ roll ≤ 4095 := by
  simp [poseAllowed, offsetWithin, and_assoc]

/-- Settles O27. -/
theorem jumpStopPoseSteps : Obligations.JumpStopPoseSteps := by
  refine ⟨fun l w s => ⟨fun taking aligned => ?_, fun taking misaligned => ?_, fun taking => ?_⟩, fun l w s taking => ?_⟩
  · have jumps : exec (.jump l) s = .next (takeJump l w (s.took l)) := taking_of_taking taking _
    rw [jumps, takeJump, if_neg (not_not_intro aligned), endStep_eq_ended]
  · have jumps : exec (.jump l) s = .next (takeJump l w (s.took l)) := taking_of_taking taking _
    rw [jumps, takeJump, if_pos misaligned, checkStep_eq_checked]
  · rw [← endStep_eq_ended]
    exact taking_of_taking taking _
  · intro c ex ey roll passes
    have poses : exec (.pose l) s = .next (setPose l w (s.took l)) := taking_of_taking taking _
    have context : ((s.took l).lane l).context = c := by rw [State.took_lane]
    have allowed : poseAllowed c ex ey roll = true ↔ passes := poseAllowed_iff c ex ey roll
    have set : setPose l w (s.took l) = if poseAllowed c ex ey roll
        then endStep l w .done ([c.flagByte] ++ zeros 11) .advance (setContext l (fun c => { c with pose := ⟨ex, ey, roll⟩ }) (s.took l))
        else checkStep l w .operand (s.took l) := by rw [← context]; rfl
    rw [poses, set]
    refine ⟨fun yes => ?_, fun no => ?_⟩
    · rw [if_pos (allowed.mpr yes), endStep_eq_ended, ← context]
      rfl
    · rw [if_neg (mt allowed.mp no), checkStep_eq_checked]

/-! ## Holds reached, and the end of CLEARING -/

theorem holdPlace_eq_some {x : Lane} {pos : HoldPosition}
    (h : x.state = .running ∧ x.stage = .boundary ∧ x.holdPending = true ∧ pos = .boundary
      ∨ (∃ w, x.state = .running ∧ x.stage = .tagged w ∧ pos = .tagged)
      ∨ x.state = .suspended ∧ x.holdPending = true ∧ pos = .suspended) : holdPlace x = some pos := by
  rcases h with ⟨state, stage, hold, rfl⟩ | ⟨w, state, stage, rfl⟩ | ⟨state, hold, rfl⟩
  · simp only [holdPlace, state, stage, hold, if_true]
  · simp only [holdPlace, state, stage]
  · simp only [holdPlace, state, hold, if_true]

theorem State.surveyOpen_iff (s : State) (l : LaneId) : s.surveyOpen l = true ↔ s.map.lane = some l := by
  simp [State.surveyOpen]

theorem surveyRenderOf_iff (s : State) (l : LaneId) : surveyRenderOf s l = true ↔
    ∃ r last n, s.rect.render = some r ∧ r.job = .survey last n ∧ r.lane = l ∧ s.map.lane = some l ∧ r.stopping = false := by
  unfold surveyRenderOf
  cases s.rect.render with
  | none => simp
  | some r =>
    cases job : r.job with
    | survey last n => simp [job, State.surveyOpen_iff, and_assoc]
    | patch _ _ => simp [job]

theorem State.bump_withLane (s : State) (l : LaneId) (x : Lane) (f : Counters → Counters) :
    (s.withLane l x).bump l f = s.withLane l { x with counters := f x.counters } := State.setLane_withLane ..

/-- The hold of a lane with no pending flag set for it (R61, R179). -/
theorem reachHold_of_quiet {l : LaneId} {s : State} (quiet : ¬ (s.trigger.armed = some l ∧ s.trigger.pending = true))
    (pos : HoldPosition) : reachHold l pos s = raiseIntermediate l { held := true } (s.withLane l { (s.lane l).grantPast with
      state := .held, holdPending := false, holdPosition := some pos }) := by
  unfold reachHold
  exact congrArg _ (if_neg quiet)

theorem reachHold_of_pending {l : LaneId} {s : State} (set : s.trigger.armed = some l ∧ s.trigger.pending = true)
    (pos : HoldPosition) : reachHold l pos s = raiseIntermediate l { held := true }
      ({ s with trigger.pending := false }.withLane l { (s.lane l).grantPast with
        state := .held, holdPending := false, holdPosition := some pos
        counters.withheldHeld := min (2 ^ 32 - 1) ((s.lane l).counters.withheldHeld + 1) }) := by
  unfold reachHold
  refine congrArg _ ((if_pos set).trans ?_)
  exact State.bump_withLane { s with trigger.pending := false } l _ _

theorem exec_holdReached_of_due {l : LaneId} {s : State} {pos : HoldPosition} (place : holdPlace (s.lane l) = some pos)
    (still : surveyRenderOf s l = false) (first : (s.lane l).stage = .leftHold → nextGrant s = none) :
    exec (.holdReached l) s = .next (reachHold l pos s) := by
  have noGrant : grantComesFirst s l = false := by
    by_cases h : (s.lane l).stage = .leftHold <;> simp [grantComesFirst, h, first]
  rw [show exec (.holdReached l) s = execHoldReached l s from rfl]
  simp [execHoldReached, place, still, noGrant]

theorem clearingLeft_eq_false {s : State} {l : LaneId} (render : ∀ r, s.rect.render = some r → r.lane = l → r.stopping = false)
    (words : ∀ d ∈ s.doneWrites, d.lane = l → d.role ≠ .clearing) (read : (s.lane l).discarding = none)
    (late : ∀ q ∈ s.lateCommits, q.lane ≠ l) : clearingLeft s l = false := by
  have stopped : stoppedRenderLeft s l = false := by
    unfold stoppedRenderLeft
    split
    · next r found => simpa using render r found
    · rfl
  have none : lateCommitOf s l = none := by simpa [lateCommitOf] using late
  simpa [clearingLeft, stopped, read, none] using words

/-- Settles O28. -/
theorem holdReachedAndClearingEnds : Obligations.HoldReachedAndClearingEnds := by
  intro l s x y
  refine ⟨fun pos place still first => ?_, fun suspended stage some => ?_, surveyRenderOf_iff s l, fun clearing render words read late => ?_⟩
  · rw [exec_holdReached_of_due (holdPlace_eq_some place) still first]
    exact ⟨fun quiet => congrArg _ (reachHold_of_quiet quiet pos), fun set => congrArg _ (reachHold_of_pending set pos)⟩
  · have comesFirst : grantComesFirst s l = true := by simp [grantComesFirst, stage, some, x]
    rw [show exec (.holdReached l) s = execHoldReached l s from rfl]
    unfold execHoldReached
    split
    · exact if_pos (.inr comesFirst)
    · rfl
  · exact if_pos ⟨clearing, by simp [clearingLeft_eq_false render words read late]⟩

end Sys2Proof.Machine

/-! SUPPORT. Step words and the examination of a fetched step (R20, R23, R25), and the statement about it. -/

namespace Sys2Proof.Machine

set_option Elab.async false

/-! ## Step words -/

theorem field_drop (bs : List Byte) (k i n : Nat) : field (bs.drop k) i n = field bs (k + i) n := by
  unfold field; rw [List.drop_drop]

theorem field_three (bs : List Byte) (i : Nat) : field bs i 3 = halfOf bs i + 65536 * byteOf bs (i + 2) := by
  simp only [field_succ _ _ 2, field_succ _ _ 1, field_one, halfOf, Nat.add_assoc, Nat.reduceAdd]; omega

theorem StepWord.operand_ofBytes (bs : List Byte) {i : Nat} (h : 16 ≤ i) (n : Nat) :
    (StepWord.ofBytes bs).operand i n = field bs i n := by
  unfold StepWord.operand
  exact (field_drop bs 16 (i - 16) n).trans (by rw [Nat.add_sub_cancel' h])

theorem StepWord.patchOps_ofBytes (bs : List Byte) : (StepWord.ofBytes bs).patchOps =
    ⟨halfOf bs 16 % 2048, Fin.ofNat 8 (halfOf bs 16 / 8192), halfOf bs 18, halfOf bs 20, halfOf bs 22,
      halfOf bs 24 + 65536 * byteOf bs 26, byteOf bs 27, BitVec.ofNat 32 (wordOf bs 28)⟩ := by
  simp only [StepWord.patchOps, StepWord.operand_ofBytes bs (show 16 ≤ 16 by omega), StepWord.operand_ofBytes bs (show 16 ≤ 18 by omega),
    StepWord.operand_ofBytes bs (show 16 ≤ 20 by omega), StepWord.operand_ofBytes bs (show 16 ≤ 22 by omega),
    StepWord.operand_ofBytes bs (show 16 ≤ 24 by omega), StepWord.operand_ofBytes bs (show 16 ≤ 27 by omega),
    StepWord.operand_ofBytes bs (show 16 ≤ 28 by omega), field_one, field_two, field_three, field_four]

theorem mem_knownCodes_iff (c : Byte) : c ∈ knownCodes ↔
    (1 ≤ c.toNat ∧ c.toNat ≤ 6) ∨ (8 ≤ c.toNat ∧ c.toNat ≤ 11) ∨ (16 ≤ c.toNat ∧ c.toNat ≤ 19) ∨ c.toNat = 32 ∨ c.toNat = 33 := by
  simp only [knownCodes, List.mem_cons, List.not_mem_nil, or_false, ← BitVec.toNat_inj, BitVec.reduceToNat]
  omega

/-! ## Examination of a fetched step -/

section
variable {l : LaneId} {w : StepWord} {s : State}

theorem examineStep_of_hold_passed (pass : w.holdFlag = false ∨ (s.lane l).options.holdPermit = true ∧ (s.lane l).holdPass = true) :
    examineStep l w s = examineSuspend l w s := by
  unfold examineStep
  rcases pass with flag | ⟨permit, pass⟩
  · simp [flag]
  · simp [permit, pass]

theorem examineStep_of_not_permitted (flag : w.holdFlag = true) (permit : (s.lane l).options.holdPermit = false) :
    examineStep l w s = s.checked l w .hold := by
  rw [← checkStep_eq_checked]
  simp [examineStep, flag, permit]

theorem examineStep_of_hold (flag : w.holdFlag = true) (permit : (s.lane l).options.holdPermit = true)
    (pass : (s.lane l).holdPass = false) : examineStep l w s = tagHold l w s := by
  simp [examineStep, flag, permit, pass]

theorem examineSuspend_of_unflagged (flag : w.suspendFlag = false) : examineSuspend l w s = offerStep l w s := by
  simp [examineSuspend, flag]

theorem offerStep_of_known (known : w.code ∈ knownCodes) : offerStep l w s = s.atStage l (.take w) := if_pos known

theorem offerStep_of_unknown (unknown : w.code ∉ knownCodes) : offerStep l w s = s.checked l w .stepCode := by
  rw [← checkStep_eq_checked]; exact if_neg unknown

theorem examineSuspend_of_not_permitted (flag : w.suspendFlag = true) (permit : (s.lane l).options.suspendPermit = false) :
    examineSuspend l w s = s.checked l w .suspend := by
  rw [← checkStep_eq_checked]
  simp [examineSuspend, flag, permit]

theorem examineSuspend_of_resumed (flag : w.suspendFlag = true) (permit : (s.lane l).options.suspendPermit = true)
    (resume : (s.lane l).resumePending = true) :
    examineSuspend l w s = s.withLane l { s.lane l with resumePending := false, stage := .fetch } := by
  simp only [examineSuspend, flag, permit, resume, not_true_eq_false, if_false, if_true]
  rfl

theorem examineSuspend_of_suspended (flag : w.suspendFlag = true) (permit : (s.lane l).options.suspendPermit = true)
    (resume : (s.lane l).resumePending = false) : examineSuspend l w s = suspendLane l s := by
  simp [examineSuspend, flag, permit, resume]

theorem suspendLane_of_halt (halt : (s.lane l).haltPending = true) : suspendLane l s = endProgram l .halted none s := if_pos halt

theorem suspendLane_of_quiet (halt : (s.lane l).haltPending = false) (quiet : (s.lane l).options.quiet = true) :
    suspendLane l s = s.withLane l { s.lane l with state := .suspended, stage := .rest, holdPass := false } := by
  exact (if_neg (by simp [halt])).trans (if_pos quiet)

theorem suspendLane_of_loud (halt : (s.lane l).haltPending = false) (loud : (s.lane l).options.quiet = false) :
    suspendLane l s = raiseIntermediate l { suspended := true }
      (s.withLane l { s.lane l with state := .suspended, stage := .rest, holdPass := false }) := by
  exact (if_neg (by simp [halt])).trans (if_neg (by simp [loud]))

theorem tagHold_of_halt (halt : (s.lane l).haltPending = true) : tagHold l w s = endProgram l .halted none s := if_pos halt

theorem tagHold_eq (halt : (s.lane l).haltPending = false) : tagHold l w s =
    if surveyRenderOf s l then s.atStage l (.tagged w) else reachHold l .tagged (s.atStage l (.tagged w)) := by
  simp only [tagHold, halt]
  rfl

theorem stepArrived_eq {u : State} (enters : enterRunning l s = u) : stepArrived l w s =
    if (s.lane l).afterJump = true ∧ w.code = 0x20 then u.checked l w .jumpChain else examineStep l w u := by
  simp only [stepArrived, enters, checkStep_eq_checked]

theorem exec_stepFetch_faulted (stage : (s.lane l).stage = .fetch) : exec (.stepFetch l .faulted) s
    = .next (endProgram l .check (some .memory) (s.withLane l { s.lane l with stage := .rest, lastStep := (s.lane l).programAddr })) := by
  rw [show exec (.stepFetch l .faulted) s = execStepFetch l .faulted s from rfl]
  simp only [execStepFetch, stage]
  rfl

theorem exec_stepFetch_arrived (stage : (s.lane l).stage = .fetch) (stores : Stores) : exec (.stepFetch l (.arrived stores)) s
    = .next (stepArrived l (StepWord.ofBytes ((s.mem.afterStores stores).read (s.lane l).programAddr 32))
      ({ s with mem := s.mem.afterStores stores }.withLane l { s.lane l with stage := .rest, lastStep := (s.lane l).programAddr })) := by
  rw [show exec (.stepFetch l (.arrived stores)) s = execStepFetch l (.arrived stores) s from rfl]
  simp only [execStepFetch, stage]
  rfl

end

/-- The state of a fetched step's examination: RUNNING, after a first fetch with INITIAL if it was asked for (R7, R28). -/
structure Entered (l : LaneId) (y : Lane) (s u : State) : Prop where
  enters : enterRunning l (s.withLane l y) = u
  options : (u.lane l).options = y.options
  holdPass : (u.lane l).holdPass = y.holdPass
  haltPending : (u.lane l).haltPending = y.haltPending
  resumePending : (u.lane l).resumePending = y.resumePending
  stage : (u.lane l).stage = y.stage
  survey : surveyRenderOf u l = surveyRenderOf s l

theorem surveyRenderOf_congr {s u : State} (rect : u.rect = s.rect) (map : u.map = s.map) (l : LaneId) :
    surveyRenderOf u l = surveyRenderOf s l := by
  unfold surveyRenderOf State.surveyOpen
  rw [rect, map]

theorem enterRunning_entered {l : LaneId} {y : Lane} {s u : State}
    (h : y.state = .running ∧ u = s.withLane l y
      ∨ y.state = .starting ∧ y.options.initial = false ∧ u = s.withLane l { y with state := .running }
      ∨ y.state = .starting ∧ y.options.initial = true
        ∧ u = raiseIntermediate l { initial := true } (s.withLane l { y with state := .running })) : Entered l y s u := by
  have lane : (s.withLane l y).lane l = y := State.withLane_lane_same ..
  have enters : enterRunning l (s.withLane l y) = if y.state = .starting then
      if y.options.initial then raiseIntermediate l { initial := true } (s.withLane l { y with state := .running })
      else s.withLane l { y with state := .running } else s.withLane l y := by
    simp only [enterRunning, lane, State.setLane_withLane]
  rcases h with ⟨running, rfl⟩ | ⟨starting, initial, rfl⟩ | ⟨starting, initial, rfl⟩
  · rw [if_neg (by simp [running])] at enters
    exact ⟨enters, by rw [lane], by rw [lane], by rw [lane], by rw [lane], by rw [lane], rfl⟩
  · rw [if_pos starting, if_neg (by simp [initial])] at enters
    exact ⟨enters, by simp, by simp, by simp, by simp, by simp, rfl⟩
  · rw [if_pos starting, if_pos initial] at enters
    exact ⟨enters, by simp [raiseIntermediate, Lane.raised], by simp [raiseIntermediate, Lane.raised],
      by simp [raiseIntermediate, Lane.raised], by simp [raiseIntermediate, Lane.raised], by simp [raiseIntermediate, Lane.raised],
      surveyRenderOf_congr (by simp [State.withLane]) (by simp [State.withLane]) l⟩

/-- Settles O25. -/
theorem stepFetched : Obligations.StepFetched := by
  unfold Obligations.StepFetched
  refine ⟨fun bs => ?_, mem_knownCodes_iff, fun l s stage => ?_⟩
  · intro w flags
    refine ⟨rfl, rfl, rfl, rfl, fun i hi => ?_, ?_, StepWord.patchOps_ofBytes bs⟩
    · simp only [w, StepWord.operand_ofBytes bs hi, field_one, field_two, field_four, and_self]
    · simp only [w, StepWord.tag, StepWord.operand_ofBytes bs (Nat.le_refl 16), field_one]
      rfl
  intro x y
  refine ⟨exec_stepFetch_faulted stage, fun stores => ?_⟩
  intro v w chained passesHold now u entered z
  obtain ⟨enters, options, holdPass, haltPending, resumePending, rest, survey⟩ : Entered l y v u := enterRunning_entered entered
  replace survey : surveyRenderOf u l = surveyRenderOf s l := survey
  have goes {t : State} (h : (if chained then u.checked l w .jumpChain else examineStep l w u) = t) : now t := by
    have arrived := exec_stepFetch_arrived stage stores
    rw [stepArrived_eq enters, State.withLane_lane_same] at arrived
    exact arrived.trans (congrArg Host.Outcome.next h)
  have examined {t : State} (free : ¬ chained) (h : examineStep l w u = t) : now t := goes ((if_neg free).trans h)
  have suspended {t : State} (passes : passesHold) (h : examineSuspend l w u = t) : now t :=
    examined passes.1 ((examineStep_of_hold_passed (by rw [options, holdPass]; exact passes.2)).trans h)
  refine ⟨fun passes flag known => ?_, fun chain => goes (if_pos chain), fun passes flag unknown => ?_, fun free flag =>
    ⟨fun permit => ?_, fun permit pass halt => ?_, fun permit pass halt => ?_⟩, fun passes flag =>
    ⟨fun permit => ?_, fun permit resume => ?_, fun permit resume halt => ?_, fun permit resume halt => ?_⟩⟩
  · exact suspended passes ((examineSuspend_of_unflagged flag).trans (offerStep_of_known known))
  · exact suspended passes ((examineSuspend_of_unflagged flag).trans (offerStep_of_unknown unknown))
  · exact examined free (examineStep_of_not_permitted flag (by rw [options]; exact permit))
  · exact examined free ((examineStep_of_hold flag (by rw [options]; exact permit) (by rw [holdPass]; exact pass)).trans
      (tagHold_of_halt (by rw [haltPending]; exact halt)))
  · have held : examineStep l w u = _ :=
      (examineStep_of_hold flag (by rw [options]; exact permit) (by rw [holdPass]; exact pass)).trans
        (tagHold_eq (by rw [haltPending]; exact halt))
    rw [survey] at held
    exact ⟨fun renders => examined free (held.trans (if_pos renders)),
      fun still => examined free (held.trans (if_neg (by simp [still])))⟩
  · exact suspended passes (examineSuspend_of_not_permitted flag (by rw [options]; exact permit))
  · exact suspended passes (examineSuspend_of_resumed flag (by rw [options]; exact permit) (by rw [resumePending]; exact resume))
  · exact suspended passes ((examineSuspend_of_suspended flag (by rw [options]; exact permit) (by rw [resumePending]; exact resume)).trans
      (suspendLane_of_halt (by rw [haltPending]; exact halt)))
  · have stays : examineSuspend l w u = suspendLane l u :=
      examineSuspend_of_suspended flag (by rw [options]; exact permit) (by rw [resumePending]; exact resume)
    have fresh : (u.lane l).haltPending = false := by rw [haltPending]; exact halt
    have lane : ({ u.lane l with state := .suspended, stage := .rest, holdPass := false } : Lane)
        = { z with state := .suspended, holdPass := false } := by simp only [z, rest, y]
    refine ⟨fun quiet => suspended passes ?_, fun loud => suspended passes ?_⟩
    · rw [stays, suspendLane_of_quiet fresh (by rw [options]; exact quiet), lane]
    · rw [stays, suspendLane_of_loud fresh (by rw [options]; exact loud), lane]

end Sys2Proof.Machine

/-! SUPPORT. The end of a done-word write (R21, R28, R34, R154, R155), and the statement about it. -/

namespace Sys2Proof.Machine

set_option Elab.async false

/-! ## A done word in memory (R21) -/

theorem positions_append_cons {α : Type} {q : α → Bool} {older newer : List α} {x : α} (hit : q x = true) (i : Nat) :
    (positions q i (older ++ x :: newer))[older.countP q]? = some (i + older.length) := by
  induction older generalizing i with
  | nil => simp [positions, hit]
  | cons y ys ih =>
    by_cases h : q y
    · simp [positions, h, ih (i + 1)]; omega
    · simp [positions, h, ih (i + 1)]; omega

theorem Memory.read_write_of_outside {m : Memory} {a b : Word} {bs : List Byte} {n : Nat}
    (outside : ∀ i < n, OutsideOf a bs.length ((b.toNat + i) % 2 ^ 32)) : (m.write a bs).read b n = m.read b n := by
  unfold Memory.read
  refine List.map_congr_left fun i hi => ?_
  exact Memory.byteAt_write_of_outside (outside i (List.mem_range.mp hi))

theorem DoneWrite.landIn_eq (d : DoneWrite) (m : Memory) :
    d.landIn m = (m.write (d.addr + 4) d.results).write (d.addr + 2) [BitVec.ofNat 8 d.code.code, 0] := by
  unfold DoneWrite.landIn
  cases d.code <;> rfl

theorem landedWord_read (m : Memory) (a : Word) {bs : List Byte} (len : bs.length = 12) (code : Byte) :
    let after := (m.write (a + 4) bs).write (a + 2) [code, 0]
    after.read (a + 4) 12 = bs ∧ after.read (a + 2) 2 = [code, 0] ∧ ∀ x, OutsideOf (a + 2) 14 x → after.byteAt x = m.byteAt x := by
  have a4 : (a + 4).toNat = (a.toNat + 4) % 2 ^ 32 := by rw [BitVec.toNat_add]; rfl
  have a2 : (a + 2).toNat = (a.toNat + 2) % 2 ^ 32 := by rw [BitVec.toNat_add]; rfl
  have fits : a.toNat < 2 ^ 32 := a.isLt
  refine ⟨?_, Memory.read_write _ _ _ (by simp), fun x outside => ?_⟩
  · rw [Memory.read_write_of_outside fun i hi => ⟨Nat.mod_lt _ (by decide), ?_⟩, ← len, Memory.read_write _ _ _ (by omega)]
    simp only [List.length_cons, List.length_nil, a4, a2]
    omega
  · obtain ⟨bound, far⟩ := outside
    rw [a2] at far
    rw [Memory.byteAt_write_of_outside ⟨bound, ?_⟩, Memory.byteAt_write_of_outside ⟨bound, ?_⟩]
    · rw [len, a4]; omega
    · simp only [List.length_cons, List.length_nil, a2]; omega

theorem exec_doneWordWriteEnd {s : State} {d : DoneWrite} {older newer : List DoneWrite} (flight : s.doneWrites = older ++ d :: newer)
    (e : WriteEnd) : exec (.doneWordWriteEnd d.lane (older.countP fun p => decide (p.lane = d.lane)) e) s
      = .next (doneWordWritten d (doneWriteEffect d e { s with doneWrites := older ++ newer })) := by
  rw [show exec (.doneWordWriteEnd d.lane (older.countP fun p => decide (p.lane = d.lane)) e) s
    = execDoneWordWriteEnd d.lane (older.countP fun p => decide (p.lane = d.lane)) e s from rfl]
  have place : nthDoneWrite s d.lane (older.countP fun p => decide (p.lane = d.lane)) = some older.length := by
    rw [nthDoneWrite, flight, positions_append_cons (by simp), Nat.zero_add]
  have found : s.doneWrites[older.length]? = some d := by rw [flight]; simp
  have left : removeAt older.length s.doneWrites = older ++ newer := by rw [flight]; exact removeAt_append_cons ..
  simp only [execDoneWordWriteEnd, place, found, left]

/-! ## What follows a done word -/

@[simp] theorem State.withLane_map (s : State) (l : LaneId) (x : Lane) : (s.withLane l x).map = s.map := rfl

@[simp] theorem State.withLane_doneWrites (s : State) (l : LaneId) (x : Lane) : (s.withLane l x).doneWrites = s.doneWrites := rfl

/-- The states of lane `l`'s course that raises of status leave as they are. -/
structure SameCourse (l : LaneId) (s u : State) : Prop where
  state : (u.lane l).state = (s.lane l).state
  stage : (u.lane l).stage = (s.lane l).stage
  address : (u.lane l).programAddr = (s.lane l).programAddr
  halt : (u.lane l).haltPending = (s.lane l).haltPending
  hold : (u.lane l).holdPending = (s.lane l).holdPending
  map : u.map = s.map
  words : u.doneWrites = s.doneWrites

theorem SameCourse.refl (l : LaneId) (s : State) : SameCourse l s s := ⟨rfl, rfl, rfl, rfl, rfl, rfl, rfl⟩

theorem SameCourse.trans {l : LaneId} {s t u : State} (h : SameCourse l s t) (g : SameCourse l t u) : SameCourse l s u :=
  ⟨g.state.trans h.state, g.stage.trans h.stage, g.address.trans h.address, g.halt.trans h.halt, g.hold.trans h.hold,
    g.map.trans h.map, g.words.trans h.words⟩

theorem SameCourse.raiseStatus (l : LaneId) (k : Kinds) (r : Reasons) (s : State) : SameCourse l s (raiseStatus l k r s) := by
  constructor <;> simp [Lane.raised]

theorem SameCourse.withCompletion (l : LaneId) (c : Completion) (s : State) :
    SameCourse l s (s.withLane l { s.lane l with completion := c }) := by
  constructor <;> simp

theorem SameCourse.noted {l : LaneId} {s : State} (note : Prop) [Decidable note] :
    SameCourse l s (if note then raiseIntermediate l { note := true } s else s) := by
  split
  · exact .raiseStatus ..
  · exact .refl ..

section
variable {l : LaneId} {u : State}

theorem afterDoneWord_advance (running : (u.lane l).state = .running) {after : After}
    (h : after = .advance ∨ after = .advanceAlert ∨ after = .advanceStarved) : afterDoneWord l after u = advance l u := by
  unfold afterDoneWord
  rw [if_neg (by simp [running])]
  rcases h with rfl | rfl | rfl <;> rfl

theorem afterDoneWord_jump (running : (u.lane l).state = .running) (target : Word) : afterDoneWord l (.jump target) u
    = boundary l (u.withLane l { u.lane l with programAddr := target, afterJump := true }) := if_neg (by simp [running])

theorem afterDoneWord_stop (running : (u.lane l).state = .running) : afterDoneWord l .stop u = endProgram l .normal none u :=
  if_neg (by simp [running])

theorem afterDoneWord_check (running : (u.lane l).state = .running) (c : CheckCode) :
    afterDoneWord l (.check c) u = endProgram l .check (some c) u := if_neg (by simp [running])

theorem afterDoneWord_of_draining (draining : (u.lane l).state = .draining) (after : After) :
    afterDoneWord l after u = windDown l (u.withLane l { u.lane l with stage := .rest }) := if_pos draining

/-- A step boundary of a lane set to `y` (R24). -/
theorem boundary_withLane (l : LaneId) (u : State) (y : Lane) :
    (y.haltPending = false → y.holdPending = false → boundary l (u.withLane l y) = u.withLane l { y with stage := .fetch })
      ∧ (y.haltPending = false → y.holdPending = true → boundary l (u.withLane l y) = u.withLane l { y with stage := .boundary })
      ∧ (y.haltPending = true → boundary l (u.withLane l y) = endProgram l .halted none (u.withLane l y)) := by
  have lane : (u.withLane l y).lane l = y := State.withLane_lane_same ..
  refine ⟨fun halt hold => ?_, fun halt hold => ?_, fun halt => boundary_of_halt (by rw [lane]; exact halt)⟩
  · rw [boundary_of_free (by rw [lane]; exact halt) (by rw [lane]; exact hold), State.atStage, lane, State.withLane_withLane]
  · rw [boundary_of_hold (by rw [lane]; exact halt) (by rw [lane]; exact hold), State.atStage, lane, State.withLane_withLane]

end

theorem windDown_of_wound {l : LaneId} {s : State} (draining : (s.lane l).state = .draining) (unbound : s.map.lane ≠ some l)
    (rest : (s.lane l).stage = .rest) : windDown l s = raiseStatus l { secondary := true } {} (s.withLane l { s.lane l with state := .idle }) :=
  if_pos ⟨draining, fun h => unbound ((s.surveyOpen_iff l).mp h), rest⟩

theorem windDown_of_bound {l : LaneId} {s : State} (bound : s.map.lane = some l) : windDown l s = s :=
  if_neg fun h => h.2.1 ((s.surveyOpen_iff l).mpr bound)

theorem windDown_of_busy {l : LaneId} {s : State} (busy : (s.lane l).stage ≠ .rest) : windDown l s = s :=
  if_neg fun h => busy h.2.2

/-- A lane whose wind-down goes on when its done word has been written (R34). -/
theorem afterDoneWord_winds {l : LaneId} {u : State} (draining : (u.lane l).state = .draining) (after : After) :
    (u.map.lane ≠ some l → afterDoneWord l after u
        = raiseStatus l { secondary := true } {} (u.withLane l { u.lane l with state := .idle, stage := .rest }))
      ∧ (u.map.lane = some l → afterDoneWord l after u = u.withLane l { u.lane l with stage := .rest }) := by
  rw [afterDoneWord_of_draining draining]
  have wound (y : Lane) (draining : y.state = .draining) (unbound : u.map.lane ≠ some l) (rest : y.stage = .rest) :
      windDown l (u.withLane l y) = raiseStatus l { secondary := true } {} (u.withLane l { y with state := .idle }) := by
    have lane : (u.withLane l y).lane l = y := State.withLane_lane_same ..
    rw [windDown_of_wound (s := u.withLane l y) (by rw [lane]; exact draining) unbound (by rw [lane]; exact rest), lane, State.withLane_withLane]
  exact ⟨fun unbound => wound { u.lane l with stage := .rest } draining unbound rfl,
    windDown_of_bound (s := u.withLane l { u.lane l with stage := .rest })⟩

theorem unbindWhenClosed_of_closed {s : State} (closing : s.map.phase = .closing) (none : ∀ p ∈ s.doneWrites, p.role ≠ .sinkClose) :
    unbindWhenClosed s = endSurveyNow s :=
  if_pos ⟨closing, by simpa [closingWritesLeft] using none⟩

theorem unbindWhenClosed_of_open {s : State} (h : ¬ (s.map.phase = .closing ∧ ∀ p ∈ s.doneWrites, p.role ≠ .sinkClose)) :
    unbindWhenClosed s = s :=
  if_neg fun g => h ⟨g.1, by simpa [closingWritesLeft] using g.2⟩

/-! ## The end of a survey whose sinks have closed -/

section
variable {u : State} {l : LaneId}

theorem endSurveyNow_of_faulted (bound : u.map.lane = some l) (faulted : u.map.faulted = true) :
    endSurveyNow u = windDown l u.mapUnbound := by
  simp only [endSurveyNow, bound]
  exact if_pos faulted

theorem endSurveyNow_of_end (bound : u.map.lane = some l) (clean : u.map.faulted = false) (ending : u.map.ending = .endTaken) :
    endSurveyNow u = finishEnd l u.map u.mapUnbound := by
  simp only [endSurveyNow, bound, ending]
  exact if_neg (by simp [clean])

theorem endSurveyNow_of_program (bound : u.map.lane = some l) (clean : u.map.faulted = false) (ending : u.map.ending = .programEnded) :
    endSurveyNow u = finishDrain l u.map.starvedDrain u.mapUnbound := by
  simp only [endSurveyNow, bound, ending]
  exact if_neg (by simp [clean])

theorem finishEnd_of_wait {w : StepWord} (stage : (u.lane l).stage = .endWait w) (m : WallMap) : finishEnd l m u =
    if m.starvedDrain then u.ended l w .exception (endResults m 1) .advanceStarved else u.ended l w .done (endResults m 0) .advance := by
  simp only [finishEnd, stage, endStep_eq_ended]

/-- How a survey ends whose sinks have closed: after a map fault, after END, after the end of the program (R34, R154, R155). -/
theorem endSurveyNow_cases (bound : u.map.lane = some l) :
    (u.map.faulted = true →
        ((u.lane l).state = .draining → (u.lane l).stage = .rest → endSurveyNow u
            = raiseStatus l { secondary := true } {} (u.mapUnbound.withLane l { u.lane l with state := .idle }))
          ∧ ((u.lane l).stage ≠ .rest → endSurveyNow u = u.mapUnbound))
      ∧ (∀ w, u.map.faulted = false → u.map.ending = .endTaken → (u.lane l).stage = .endWait w →
          (u.map.starvedDrain = false → endSurveyNow u = u.mapUnbound.ended l w .done (endResults u.map 0) .advance)
            ∧ (u.map.starvedDrain = true → endSurveyNow u = u.mapUnbound.ended l w .exception (endResults u.map 1) .advanceStarved))
      ∧ (u.map.faulted = false → u.map.ending = .programEnded →
          (u.map.starvedDrain = false → endSurveyNow u
              = raiseStatus l { secondary := true } {} (u.mapUnbound.withLane l { u.lane l with state := .idle }))
            ∧ (u.map.starvedDrain = true → endSurveyNow u = raiseStatus l { secondary := true, alert := true } {}
              (u.mapUnbound.withLane l { u.lane l with state := .idle, completion := .drainStarved }))) := by
  refine ⟨fun faulted => ?_, fun w clean ending stage => ?_, fun clean ending => ?_⟩
  · rw [endSurveyNow_of_faulted bound faulted]
    exact ⟨fun draining rest => windDown_of_wound (s := u.mapUnbound) draining nofun rest, windDown_of_busy (s := u.mapUnbound)⟩
  · rw [endSurveyNow_of_end bound clean ending, finishEnd_of_wait (u := u.mapUnbound) stage]
    exact ⟨fun fed => if_neg (by simp [fed]), fun starved => if_pos starved⟩
  · rw [endSurveyNow_of_program bound clean ending]
    constructor <;> intro h <;> rw [h] <;> rfl

end

/-! ## The end of a done-word write -/

section
variable {d : DoneWrite} {v : State}

/-- The raise of NOTE that follows a done word whose step asks for it (R28). -/
def notedFor (d : DoneWrite) (v : State) : State := if d.note then raiseIntermediate d.lane { note := true } v else v

theorem notedFor_sameCourse (d : DoneWrite) (v : State) : SameCourse d.lane v (notedFor d v) := SameCourse.noted (d.note = true)

theorem noteAfterDoneWord_of_other (role : d.role ≠ .clearing) : noteAfterDoneWord d v = notedFor d v := by
  simp only [noteAfterDoneWord, notedFor, ne_eq, role, not_false_eq_true, and_true]

theorem alertFor_of_other (role : d.role ≠ .current) : alertFor d v = v := by
  unfold alertFor
  split
  · contradiction
  · rfl

theorem alertFor_of_current (role : d.role = .current) {after : After} (stage : (v.lane d.lane).stage = .doneWrite after) :
    alertFor d v = alertAfterDoneWord d.lane after v := by
  simp only [alertFor, role, stage]

theorem doneWordWritten_clearing (role : d.role = .clearing) : doneWordWritten d v = v := by
  rw [doneWordWritten, alertFor_of_other (by simp [role])]
  simp [noteAfterDoneWord, goOnAfter, role]

theorem doneWordWritten_alone (role : d.role = .detached ∨ d.role = .sinkFull) : doneWordWritten d v = notedFor d v := by
  rcases role with role | role <;>
  · rw [doneWordWritten, alertFor_of_other (by simp [role]), noteAfterDoneWord_of_other (by simp [role])]
    simp only [goOnAfter, role]

theorem doneWordWritten_sinkClose (role : d.role = .sinkClose) : doneWordWritten d v = unbindWhenClosed (notedFor d v) := by
  rw [doneWordWritten, alertFor_of_other (by simp [role]), noteAfterDoneWord_of_other (by simp [role])]
  simp only [goOnAfter, role]

/-- The lane's own word: ALERT, NOTE, and the lane goes on (R173). -/
theorem doneWordWritten_current {after : After} {t : State} (role : d.role = .current) (stage : (v.lane d.lane).stage = .doneWrite after)
    (alerted : alertAfterDoneWord d.lane after v = t) (same : SameCourse d.lane v t) :
    doneWordWritten d v = afterDoneWord d.lane after (notedFor d t) := by
  have there : ((notedFor d t).lane d.lane).stage = .doneWrite after :=
    ((notedFor_sameCourse d t).stage.trans same.stage).trans stage
  rw [doneWordWritten, alertFor_of_current role stage, alerted, noteAfterDoneWord_of_other (by simp [role])]
  simp only [goOnAfter, role, there]

end

/-- Settles O26. -/
theorem doneWordWritten_ends : Obligations.DoneWordWritten := by
  refine ⟨rfl, fun s d older newer flight => ?_, fun u l bound => endSurveyNow_cases bound⟩
  intro rest l nth x m landed lost noted starved ends closers
  refine ⟨fun len => landedWord_read s.mem d.addr len _, fun e v effect => ?_⟩
  intro onward past winds
  have effect_eq : doneWriteEffect d e { s with doneWrites := rest } = v := by
    rcases effect with ⟨rfl, rfl⟩ | ⟨left, rfl, rfl⟩
    · simp only [doneWriteEffect, DoneWrite.landIn_eq, landed, m]
    · rfl
  have lane : v.lane l = x := by rcases effect with ⟨-, rfl⟩ | ⟨_, -, rfl⟩ <;> rfl
  have map : v.map = s.map := by rcases effect with ⟨-, rfl⟩ | ⟨_, -, rfl⟩ <;> rfl
  have words : v.doneWrites = rest := by rcases effect with ⟨-, rfl⟩ | ⟨_, -, rfl⟩ <;> rfl
  have ends_iff (t : State) : doneWordWritten d v = t → ends e t := fun h => by
    rw [← h, ← effect_eq]; exact exec_doneWordWriteEnd flight e
  have starved_eq : starved v = raiseAlert l (v.withLane l { v.lane l with completion := .drainStarved }) := by rw [lane]
  have course {t : State} (same : SameCourse l v t) : SameCourse l v (noted t) := same.trans (notedFor_sameCourse d t)
  have alertCourse : SameCourse l v (raiseAlert l v) := .raiseStatus ..
  have starvedCourse : SameCourse l v (starved v) := by
    rw [starved_eq]; exact (SameCourse.withCompletion l .drainStarved v).trans (.raiseStatus ..)
  have onwardOf {u : State} {y : Lane} (halt : y.haltPending = x.haltPending) (hold : y.holdPending = x.holdPending)
      (written : doneWordWritten d v = boundary l (u.withLane l y)) : onward u y := by
    obtain ⟨free, held, halted⟩ := boundary_withLane l u y
    exact ⟨fun h g => ends_iff _ (written.trans (free (halt.trans h) (hold.trans g))),
      fun h g => ends_iff _ (written.trans (held (halt.trans h) (hold.trans g))),
      fun h => ends_iff _ (written.trans (halted (halt.trans h)))⟩
  have pastOf {u : State} {after : After} (advances : after = .advance ∨ after = .advanceAlert ∨ after = .advanceStarved)
      (running : x.state = .running) (same : SameCourse l v u) (written : doneWordWritten d v = afterDoneWord l after u) : past u := by
    refine onwardOf (same.halt.trans (by rw [lane])) (same.hold.trans (by rw [lane])) ?_
    rw [written, afterDoneWord_advance (same.state.trans (by rw [lane, running])) advances, ← lane, ← same.address]
    rfl
  have windsOf {u : State} {after : After} (draining : x.state = .draining) (same : SameCourse l v u)
      (written : doneWordWritten d v = afterDoneWord l after u) : winds u := by
    obtain ⟨unbound, bound⟩ := afterDoneWord_winds (same.state.trans (by rw [lane, draining])) after
    rw [same.map, map] at unbound bound
    exact ⟨fun h => ends_iff _ (written.trans (unbound h)), fun h => ends_iff _ (written.trans (bound h))⟩
  have written {after : After} {t : State} (role : d.role = .current) (stage : x.stage = .doneWrite after)
      (alerted : alertAfterDoneWord l after v = t) (same : SameCourse l v t) :
      doneWordWritten d v = afterDoneWord l after (noted t) :=
    doneWordWritten_current role (by rw [← stage, ← lane]) alerted same
  have runs (running : x.state = .running) : ((noted v).lane l).state = .running := by
    rw [(course (.refl l v)).state, lane, running]
  refine ⟨fun role => ends_iff _ (doneWordWritten_alone role), fun role => ends_iff _ (doneWordWritten_clearing role), fun role => ?_,
    fun role running => ⟨fun stage => ?_, fun target stage => ?_, fun stage => ?_, fun stage => ?_, fun stage => ?_, fun c stage => ?_⟩,
    fun role draining => ⟨fun stage => ?_, fun stage => ?_, fun stage => ?_⟩⟩
  · have closed_iff : closers ↔ (noted v).map.phase = .closing ∧ ∀ p ∈ (noted v).doneWrites, p.role ≠ .sinkClose := by
      rw [(course (.refl l v)).map, (course (.refl l v)).words, map, words]
    exact ⟨fun left => ends_iff _ ((doneWordWritten_sinkClose role).trans (unbindWhenClosed_of_open (mt closed_iff.mpr left))),
      fun closed => ends_iff _ ((doneWordWritten_sinkClose role).trans
        (unbindWhenClosed_of_closed (closed_iff.mp closed).1 (closed_iff.mp closed).2))⟩
  · exact pastOf (.inl rfl) running (course (.refl l v)) (written role stage rfl (.refl l v))
  · refine onwardOf ((course (.refl l v)).halt.trans (by rw [lane])) ((course (.refl l v)).hold.trans (by rw [lane])) ?_
    exact (written role stage rfl (.refl l v)).trans (afterDoneWord_jump (runs running) target)
  · exact pastOf (.inr (.inl rfl)) running (course alertCourse) (written role stage rfl alertCourse)
  · exact pastOf (.inr (.inr rfl)) running (course starvedCourse) (written role stage starved_eq.symm starvedCourse)
  · exact ends_iff _ ((written role stage rfl (.refl l v)).trans (afterDoneWord_stop (runs running)))
  · exact ends_iff _ ((written role stage rfl (.refl l v)).trans (afterDoneWord_check (runs running) c))
  · rcases stage with stage | stage | ⟨target, stage⟩ | ⟨c, stage⟩ <;>
      exact windsOf draining (course (.refl l v)) (written role stage rfl (.refl l v))
  · exact windsOf draining (course alertCourse) (written role stage rfl alertCourse)
  · exact windsOf draining (course starvedCourse) (written role stage starved_eq.symm starvedCourse)

end Sys2Proof.Machine

/-! SUPPORT. Render contexts (R87 to R96), and the statements about them. -/

namespace Sys2Proof.Machine

set_option Elab.async false

/-! ## The tables in memory (R93, R96) -/

theorem lensEntries_eq : ∀ bs : List Byte,
    lensEntries bs = (List.range (bs.length / 4)).map fun i => (halfOf bs (4 * i), halfOf bs (4 * i + 2))
  | a :: b :: c :: d :: rest => by
    have len : (a :: b :: c :: d :: rest).length / 4 = rest.length / 4 + 1 := by simp only [List.length_cons]; omega
    rw [len, List.range_succ_eq_map, List.map_cons, List.map_map, lensEntries, lensEntries_eq rest]
    rfl
  | [] => rfl
  | [_] => by simp [lensEntries]
  | [_, _] => by simp [lensEntries]
  | [_, _, _] => by simp [lensEntries]

theorem halfWords_eq : ∀ bs : List Byte, halfWords bs = (List.range (bs.length / 2)).map fun i => halfOf bs (2 * i)
  | a :: b :: rest => by
    have len : (a :: b :: rest).length / 2 = rest.length / 2 + 1 := by simp only [List.length_cons]; omega
    rw [len, List.range_succ_eq_map, List.map_cons, List.map_map, halfWords, halfWords_eq rest]
    rfl
  | [] => rfl
  | [_] => by simp [halfWords]

/-- The glare set counts its members (R93, R96). -/
theorem glareCount_eq_countP (bs : List Byte) :
    glareCount bs = (List.range (8 * bs.length)).countP fun c => (bs.getD (c / 8) 0).getLsbD (c % 8) := by
  induction bs with
  | nil => rfl
  | cons b bs ih =>
    have first : (List.range 8).countP (fun c => ((b :: bs).getD (c / 8) 0).getLsbD (c % 8)) = bitCount b := by
      rw [bitCount, ← List.countP_eq_length_filter]
      rfl
    have others : ((List.range (8 * bs.length)).map (8 + ·)).countP (fun c => ((b :: bs).getD (c / 8) 0).getLsbD (c % 8))
        = glareCount bs := by
      rw [ih, List.countP_map]
      refine List.countP_congr fun c _ => ?_
      simp [Nat.add_comm 8 c]
    rw [List.length_cons, Nat.mul_succ, Nat.add_comm, List.range_add, List.countP_append, first, others]
    rfl

/-! ## The table steps (R87, R88) -/

section
variable {l : LaneId} {w : StepWord} {s : State}

theorem startTableRead_of_taken (needs : Bool) (len : Nat) :
    startTableRead l needs len w (s.took l) =
      if w.operand 16 4 % 4 ≠ 0 then (s.took l).checked l w .operand
      else if s.map.lane = some l then (s.took l).checked l w .locked
      else if needs = true ∧ (s.lane l).context.geometryValid = false then (s.took l).checked l w .context
      else (s.took l).atStage l (.tableRead w len) := by
  simp only [startTableRead, checkStep_eq_checked, State.surveyOpen_iff, State.took_lane, Bool.not_eq_true]
  rfl

end

/-- The read of every table step, with the length and the geometry test of its own (R87). -/
theorem exec_tableStep {l : LaneId} {w : StepWord} {s : State} {code : Byte} {c : Instr} {len : Nat}
    (which : code = 0x01 ∧ c = .geometry l ∧ len = 64 ∨ code = 0x02 ∧ c = .lens l ∧ len = 1028
      ∨ code = 0x03 ∧ c = .shade l ∧ len = 2 * (s.lane l).context.geometry.width
      ∨ code = 0x04 ∧ c = .tone l ∧ len = 4096 ∨ code = 0x05 ∧ c = .glare l ∧ len = 512) (taking : Taking s l w code) :
    exec c s = .next (startTableRead l (decide (code = 0x03)) len w (s.took l)) := by
  rcases which with ⟨rfl, rfl, rfl⟩ | ⟨rfl, rfl, rfl⟩ | ⟨rfl, rfl, rfl⟩ | ⟨rfl, rfl, rfl⟩ | ⟨rfl, rfl, rfl⟩
  · exact taking_of_taking taking _
  · exact taking_of_taking taking _
  · have read : exec (.shade l) s
        = .next (startTableRead l true (2 * ((s.took l).lane l).context.geometry.width) w (s.took l)) := taking_of_taking taking _
    rw [State.took_lane] at read
    exact read
  · exact taking_of_taking taking _
  · exact taking_of_taking taking _

/-- Settles O29. -/
theorem tableSteps : Obligations.TableSteps := by
  intro l w s code c len which taking open_ lacks
  have lacks_iff : decide (code = 0x03) = true ∧ (s.lane l).context.geometryValid = false ↔ lacks := by rw [decide_eq_true_iff]
  rw [exec_tableStep which taking, startTableRead_of_taken]
  refine ⟨fun aligned closed has => ?_, fun misaligned => ?_, fun aligned bound => ?_, fun aligned closed lack => ?_⟩
  · rw [if_neg (not_not_intro aligned), if_neg closed, if_neg (mt lacks_iff.mp has)]
  · rw [if_pos misaligned]
  · rw [if_neg (not_not_intro aligned), if_pos bound]
  · rw [if_neg (not_not_intro aligned), if_neg closed, if_pos (lacks_iff.mpr lack)]

/-! ## The end of a table read (R89 to R96) -/

section
variable {l : LaneId} {s : State}

theorem exec_tableReadEnd_faulted {w : StepWord} {len : Nat} (stage : (s.lane l).stage = .tableRead w len) :
    exec (.tableReadEnd l .faulted) s = .next (s.checked l w .memory) := by
  rw [show exec (.tableReadEnd l .faulted) s = execTableReadEnd l .faulted s from rfl, ← checkStep_eq_checked]
  simp only [execTableReadEnd, stage]

theorem exec_tableReadEnd_arrived {w : StepWord} {len : Nat} (stage : (s.lane l).stage = .tableRead w len) (stores : Stores) :
    exec (.tableReadEnd l (.arrived stores)) s = .next (finishTableLoad l w len { s with mem := s.mem.afterStores stores }) := by
  rw [show exec (.tableReadEnd l (.arrived stores)) s = execTableReadEnd l (.arrived stores) s from rfl]
  simp only [execTableReadEnd, stage]
  rfl

theorem exec_tableReadEnd_discarded (stage : (s.lane l).stage = .rest) (discarding : (s.lane l).discarding = some .table) :
    (∀ stores, exec (.tableReadEnd l (.arrived stores)) s
        = .next ({ s with mem := s.mem.afterStores stores }.withLane l { s.lane l with discarding := none }))
      ∧ exec (.tableReadEnd l .faulted) s = .next (s.withLane l { s.lane l with discarding := none }) := by
  have ends (read : ReadEnd) : exec (.tableReadEnd l read) s = execTableReadEnd l read s := rfl
  simp only [ends]
  unfold execTableReadEnd
  split
  · next reads => simp [stage] at reads
  · exact ⟨fun _ => rfl, rfl⟩
  · next other => exact (other discarding).elim

theorem finishTableLoad_of_refused {w : StepWord} {len : Nat} {e : CheckCode}
    (refused : loadTable w.code (s.mem.read (BitVec.ofNat 32 (w.operand 16 4)) len) s.intake.ws s.intake.hs (s.lane l).context
      = .refused e) : finishTableLoad l w len s = s.checked l w e := by
  simp only [finishTableLoad, refused, checkStep_eq_checked]

theorem finishTableLoad_of_loaded {w : StepWord} {len count : Nat} {c : Context} {cleared : Bool}
    (loads : loadTable w.code (s.mem.read (BitVec.ofNat 32 (w.operand 16 4)) len) s.intake.ws s.intake.hs (s.lane l).context
      = .loaded c cleared count) :
    finishTableLoad l w len s = (s.withLane l { s.lane l with context := c }).ended l w .done (tableResults c cleared count) .advance := by
  simp only [finishTableLoad, loads, endStep_eq_ended]
  rfl

end

theorem tableResults_eq (c : Context) (cleared : Bool) (count : Nat) :
    tableResults c cleared count = c.flagByte :: ((if cleared then 1 else 0) :: (le 2 count ++ zeros 8)) := by
  cases cleared <;> rfl

theorem loadTable_geometry_refused {bs : List Byte} {ws hs : Nat} {e : CheckCode}
    (refused : (Geometry.ofBytes bs).checkCode ws hs = some e) (c : Context) : loadTable 0x01 bs ws hs c = .refused e := by
  simp [loadTable, refused]

theorem loadTable_geometry_loaded {bs : List Byte} {ws hs : Nat} (passes : (Geometry.ofBytes bs).checkCode ws hs = none) (c : Context) :
    loadTable 0x01 bs ws hs c = .loaded (c.loadGeometry (Geometry.ofBytes bs))
      (c.shadeValid && !(c.loadGeometry (Geometry.ofBytes bs)).shadeValid) (Geometry.ofBytes bs).windowDepth.toNat := by
  simp [loadTable, passes]

theorem loadGeometry_clears (c : Context) (g : Geometry) :
    (c.shadeValid && !(c.loadGeometry g).shadeValid) = decide (c.shadeValid = true ∧ g.width ≠ c.geometry.width) := by
  cases h : c.shadeValid <;> simp [Context.loadGeometry, h]

/-- Settles O30. -/
theorem tableReadEnds : Obligations.TableReadEnds := by
  refine ⟨fun bs => ⟨lensEntries_eq bs, halfWords_eq bs, glareCount_eq_countP bs⟩, fun c => rfl, fun l s => ?_⟩
  refine ⟨fun w len stage => ⟨exec_tableReadEnd_faulted stage, fun stores => ?_⟩,
    fun stores stage discarding => (exec_tableReadEnd_discarded stage discarding).imp_left fun h => h stores⟩
  intro v bs loaded
  have arrives {t : State} (h : finishTableLoad l w len v = t) : exec (.tableReadEnd l (.arrived stores)) s = .next t := by
    rw [← h]; exact exec_tableReadEnd_arrived stage stores
  have loads {c : Context} {cleared : Bool} {count : Nat}
      (h : loadTable w.code bs s.intake.ws s.intake.hs (s.lane l).context = .loaded c cleared count) :
      loaded c ((if cleared then 1 else 0) :: (le 2 count ++ zeros 8)) := by
    have ended := finishTableLoad_of_loaded (s := v) h
    rw [tableResults_eq] at ended
    exact arrives ended
  refine ⟨fun code e refused => ?_, fun code passes => ?_, fun code => ?_, fun code => ?_, fun code => ?_, fun code => ?_⟩
  · exact arrives (finishTableLoad_of_refused (s := v) (by rw [code]; exact loadTable_geometry_refused refused _))
  · intro g
    have load : loadTable w.code bs s.intake.ws s.intake.hs (s.lane l).context = .loaded ((s.lane l).context.loadGeometry g)
        (decide ((s.lane l).context.shadeValid = true ∧ g.width ≠ (s.lane l).context.geometry.width)) g.windowDepth.toNat := by
      rw [code, loadTable_geometry_loaded passes, ← loadGeometry_clears]
    have done := loads load
    simp only [decide_eq_true_eq] at done
    exact done
  · exact loads (cleared := false) (count := 0) (by rw [code]; rfl)
  · exact loads (cleared := false) (count := 0) (by rw [code]; rfl)
  · exact loads (cleared := false) (count := 0) (by rw [code]; rfl)
  · exact loads (cleared := false) (by rw [code]; rfl)

end Sys2Proof.Machine

/-! SUPPORT. BEGIN, SINK, MARK and END, windows and candidate rows (R130 to R135, R141 to R151), and the statements about them. -/

namespace Sys2Proof.Machine

set_option Elab.async false

/-! ## BEGIN (R130, R131) -/

/-- The operands of BEGIN are in range (R130). -/
abbrev BeginInRange (w : StepWord) : Prop :=
  w.operand 16 2 ≠ 0 ∧ 20 ≤ w.operand 18 2 ∧ w.operand 18 2 ≤ 10000 ∧ w.operand 20 1 ≠ 0 ∧ w.operand 24 4 % 4096 = 0

section
variable {l : LaneId} {w : StepWord} {s : State}

theorem beginCheck_of_operands (out : ¬ BeginInRange w) : beginCheck s l w = some .operand := by
  by_cases pitch : w.operand 16 2 = 0
  · exact if_pos pitch
  by_cases time : w.operand 18 2 < 20 ∨ 10000 < w.operand 18 2
  · rw [beginCheck, if_neg pitch, if_pos time]
  by_cases level : w.operand 20 1 = 0
  · rw [beginCheck, if_neg pitch, if_neg time, if_pos level]
  by_cases staging : w.operand 24 4 % 4096 ≠ 0
  · rw [beginCheck, if_neg pitch, if_neg time, if_neg level, if_pos staging]
  · exact absurd ⟨pitch, by omega, by omega, level, by omega⟩ out

theorem beginCheck_of_context (fits : BeginInRange w) (partial_ : (s.lane l).context.complete = false) :
    beginCheck s l w = some .context := by
  obtain ⟨pitch, short, long, level, staging⟩ := fits
  rw [beginCheck, if_neg pitch, if_neg (by omega), if_neg level, if_neg (not_not_intro staging), if_pos (by simp [partial_])]

theorem beginCheck_of_complete (fits : BeginInRange w) (complete : (s.lane l).context.complete = true) {bound : Option LaneId}
    (lane : s.map.lane = bound) :
    beginCheck s l w = bound.map fun m => if m = l then CheckCode.surveyOpen else .surveyBusy := by
  obtain ⟨pitch, short, long, level, staging⟩ := fits
  rw [beginCheck, if_neg pitch, if_neg (by omega), if_neg level, if_neg (not_not_intro staging), if_neg (by simp [complete]), lane]
  cases bound with
  | none => rfl
  | some m => exact (apply_ite some _ _ _).symm

theorem takeBegin_of_refused {c : CheckCode} (refused : beginCheck s l w = some c) : takeBegin l w s = s.checked l w c := by
  simp only [takeBegin, refused, checkStep_eq_checked]

theorem takeBegin_of_passed (passed : beginCheck s l w = none) : takeBegin l w s = openSurvey l w s := by
  simp only [takeBegin, passed]

theorem openSurvey_eq (l : LaneId) (w : StepWord) (s : State) :
    openSurvey l w s = evalTrigger { s.ended l w .done (zeros 12) .advance with
      map := boundMap s.map l (s.lane l).context.geometry w
      trigger := { armed := some l, pitch := w.operand 16 2, lReq := w.operand 20 1, tReq := w.operand 18 2, hw := none
                   pending := false } } := by
  rw [openSurvey, endStep_eq_ended]

end

/-- Settles O31. -/
theorem beginStep : Obligations.BeginStep := by
  intro l w s taking c g inRange now
  have begins {t : State} (h : takeBegin l w (s.took l) = t) : now t := by
    rw [← h]; exact taking_of_taking taking _
  have context : ((s.took l).lane l).context = c := by rw [State.took_lane]
  refine ⟨fun out => ?_, fun fits incomplete => ?_, fun fits complete bound => ?_, fun m fits complete bound other => ?_,
    fun fits complete free => ?_⟩
  · exact begins (takeBegin_of_refused (beginCheck_of_operands out))
  · exact begins (takeBegin_of_refused (beginCheck_of_context fits (by rw [context]; exact incomplete)))
  · refine begins (takeBegin_of_refused ?_)
    rw [beginCheck_of_complete (s := s.took l) fits (by rw [context]; exact complete) bound, Option.map_some, if_pos rfl]
  · refine begins (takeBegin_of_refused ?_)
    rw [beginCheck_of_complete (s := s.took l) fits (by rw [context]; exact complete) bound, Option.map_some, if_neg other]
  · have passed := beginCheck_of_complete (s := s.took l) fits (by rw [context]; exact complete) free
    refine begins ((takeBegin_of_passed passed).trans ((openSurvey_eq ..).trans ?_))
    rw [context]
    rfl

/-! ## SINK, MARK and END (R144, R149, R151) -/

section
variable {l : LaneId} {w : StepWord} {s : State}

/-- Where a SINK that has joined its queue leaves its lane (R24, R27). -/
theorem joinSink_cases (l : LaneId) (w : StepWord) (s : State) {u : State}
    (queued : u = { s with map.sinks := s.map.sinks ++ [newSink (s.lane l) w] }) :
    let x := s.lane l
    (x.haltPending = false → x.holdPending = false →
        joinSink l w s = u.withLane l { x with programAddr := x.programAddr + 32, stage := .fetch })
      ∧ (x.haltPending = false → x.holdPending = true →
        joinSink l w s = u.withLane l { x with programAddr := x.programAddr + 32, stage := .boundary })
      ∧ (x.haltPending = true →
        joinSink l w s = endProgram l .halted none (u.withLane l { x with programAddr := x.programAddr + 32 })) := by
  subst queued
  exact boundary_withLane l _ { s.lane l with programAddr := (s.lane l).programAddr + 32 }

theorem markResults_eq (range : Option RowRange) : markResults (range.map (·.front)) =
    match range with
    | some r => leInt 4 r.front ++ zeros 8
    | none => zeros 4 ++ 1 :: zeros 7 := by
  cases range with
  | none => rfl
  | some r => simp only [markResults, Option.map_some, Option.getD_some, Option.isNone_some, List.append_assoc]; rfl

theorem joinMark_eq (l : LaneId) (w : StepWord) (s : State) : joinMark l w s =
    ({ s with map.markers := s.map.markers ++ [⟨BitVec.ofNat 32 (w.operand 16 4), s.map.range.map (·.front)⟩] } : State).ended l w .done
      (markResults (s.map.range.map (·.front))) .advance := by
  rw [← endStep_eq_ended]; rfl

theorem abandonForHalt_eq (l : LaneId) (w : StepWord) (s : State) : abandonForHalt l w s = endProgram l .halted none { s with
    doneWrites := s.doneWrites ++ [⟨l, (s.lane l).programAddr, .abandoned, zeros 12, w.noteFlag, .detached⟩] } := rfl

theorem takeSink_of_operands (out : ¬ (w.operand 16 4 % 16 = 0 ∧ 1 ≤ w.operand 20 2 ∧ w.operand 20 2 ≤ 4096)) :
    takeSink l w s = s.checked l w .operand := by
  rw [takeSink, checkStep_eq_checked]
  by_cases aligned : w.operand 16 4 % 16 = 0
  · rw [if_neg (not_not_intro aligned), if_pos (by omega)]
  · rw [if_pos aligned]

theorem takeSink_of_fits (fits : w.operand 16 4 % 16 = 0 ∧ 1 ≤ w.operand 20 2 ∧ w.operand 20 2 ≤ 4096) : takeSink l w s =
    if s.map.lane ≠ some l then s.checked l w .noSurvey
    else if s.map.sinks.length < 8 then joinSink l w s
    else if (s.lane l).haltPending then abandonForHalt l w s
    else s.atStage l (.sinkWait w) := by
  obtain ⟨aligned, least, most⟩ := fits
  rw [takeSink, if_neg (not_not_intro aligned), if_neg (by omega), checkStep_eq_checked]
  simp only [State.surveyOpen_iff]
  rfl

theorem takeMark_eq : takeMark l w s =
    if s.map.lane ≠ some l then s.checked l w .noSurvey
    else if s.map.markers.length < 16 then joinMark l w s
    else if (s.lane l).haltPending then abandonForHalt l w s
    else s.atStage l (.markWait w) := by
  rw [takeMark, checkStep_eq_checked]
  simp only [State.surveyOpen_iff]
  rfl

theorem disarmTrigger_eq (l : LaneId) (s : State) : disarmTrigger l s = { s with
    trigger := if s.trigger.armed = some l then { s.trigger with armed := none, hw := none, pending := false } else s.trigger } := by
  unfold disarmTrigger
  split <;> rfl

theorem takeEnd_of_bound (bound : s.map.lane = some l) : takeEnd l w s = { s.atStage l (.endWait w) with
    map := { s.map with ending := .endTaken }
    trigger := if s.trigger.armed = some l then { s.trigger with armed := none, hw := none, pending := false } else s.trigger } := by
  rw [takeEnd, if_neg (not_not_intro ((s.surveyOpen_iff l).mpr bound))]
  simp only [disarmTrigger_eq]
  rfl

theorem takeEnd_of_unbound (unbound : s.map.lane ≠ some l) : takeEnd l w s = s.checked l w .noSurvey := by
  rw [takeEnd, if_pos (mt (s.surveyOpen_iff l).mp unbound), checkStep_eq_checked]

end

/-- Settles O32. -/
theorem surveyQueueSteps : Obligations.SurveyQueueSteps := by
  intro l w s x y open_ givenUp queued marked fits
  have lane : (s.took l).lane l = y := State.took_lane s l
  have map : (s.took l).map = s.map := rfl
  have gives : abandonForHalt l w (s.took l) = givenUp := by rw [abandonForHalt_eq, lane]; rfl
  refine ⟨fun taking => ?_, fun taking => ?_, fun taking => ?_⟩
  · have sinks : exec (.sink l) s = .next (takeSink l w (s.took l)) := taking_of_taking taking _
    rw [sinks]
    refine ⟨fun out => congrArg _ (takeSink_of_operands out), fun inside closed => ?_, fun inside bound room => ?_,
      fun inside bound full => ?_⟩ <;> rw [takeSink_of_fits inside, map]
    · rw [if_pos closed]
    · have joins := joinSink_cases l w (s.took l) (u := queued.withLane l y) (by rw [lane]; rfl)
      rw [if_neg (not_not_intro bound), if_pos room]
      simp only [lane, State.withLane_withLane] at joins
      obtain ⟨free, held, halted⟩ := joins
      exact ⟨fun h g => congrArg _ (free h g), fun h g => congrArg _ (held h g), fun h => congrArg _ (halted h)⟩
    · rw [if_neg (not_not_intro bound), if_neg (by omega), lane, gives]
      exact ⟨fun h => congrArg _ (if_neg (by simp [y, h])), fun h => congrArg _ (if_pos h)⟩
  · have marks : exec (.mark l) s = .next (takeMark l w (s.took l)) := taking_of_taking taking _
    rw [marks, takeMark_eq, map]
    refine ⟨fun closed => ?_, fun bound room => ?_, fun bound full => ?_⟩
    · rw [if_pos closed]
    · rw [if_neg (not_not_intro bound), if_pos room, joinMark_eq, map, markResults_eq]
      rfl
    · rw [if_neg (not_not_intro bound), if_neg (by omega), lane, gives]
      exact ⟨fun h => congrArg _ (if_neg (by simp [y, h])), fun h => congrArg _ (if_pos h)⟩
  · have ends : exec (.endSurvey l) s = .next (takeEnd l w (s.took l)) := taking_of_taking taking _
    rw [ends]
    exact ⟨fun closed => congrArg _ (takeEnd_of_unbound closed), fun bound => congrArg _ (takeEnd_of_bound (s := s.took l) bound)⟩

/-! ## Windows (R92, R135) -/

theorem ceilDiv_le_iff (a : Int) {b : Int} (pos : 0 < b) (n : Int) : ceilDiv a b ≤ n ↔ a ≤ n * b := by
  have bound := Int.le_ediv_iff_mul_le (a := -n) (b := -a) pos
  rw [Int.neg_mul] at bound
  unfold ceilDiv
  omega

theorem lt_ceilDiv_iff (a : Int) {b : Int} (pos : 0 < b) (n : Int) : n < ceilDiv a b ↔ n * b < a := by
  rw [← Int.not_le, ceilDiv_le_iff a pos, Int.not_le]

/-- Settles O33. -/
theorem windowRows : Obligations.WindowRows := by
  intro m pos n pitch
  have pitch' : (0 : Int) < m.rowPitch := by omega
  have far : n ≤ windowLast m pos ↔ n < ceilDiv (pos + m.zFar) m.rowPitch := by unfold windowLast; omega
  refine ⟨?_, fun g near end_ rows before => ?_⟩
  · rw [windowFirst, ceilDiv_le_iff _ pitch', far, lt_ceilDiv_iff _ pitch', surveyDepth]
    omega
  · rw [Geometry.windowDepth, near, end_, rows, windowFirst, windowLast]
    have farLow := le_ceilDiv_mul (pos + m.zFar) pitch'
    have nearLow := le_ceilDiv_mul (pos + m.zNear) pitch'
    have nearHigh := ceilDiv_sub_one_mul_lt (pos + m.zNear) pitch'
    rw [Int.sub_mul] at nearHigh
    have depthLow := le_ceilDiv_mul ((m.zFar : Int) - m.zNear) pitch'
    refine ⟨?_, ?_⟩
    · have : ceilDiv (pos + m.zFar) m.rowPitch
          ≤ ceilDiv (pos + m.zNear) m.rowPitch + ceilDiv ((m.zFar : Int) - m.zNear) m.rowPitch :=
        (ceilDiv_le_iff _ pitch' _).mpr (by rw [Int.add_mul]; omega)
      omega
    · have : ceilDiv ((m.zFar : Int) - m.zNear) m.rowPitch
          ≤ ceilDiv (pos + m.zFar) m.rowPitch - ceilDiv (pos + m.zNear) m.rowPitch + 1 :=
        (ceilDiv_le_iff _ pitch' _).mpr (by rw [Int.add_mul, Int.sub_mul]; omega)
      omega

/-! ## Candidate rows (R133, R134, R141, R142) -/

theorem rowSlot_inj {a b : Int} (same : rowSlot a = rowSlot b) (near : (a - b).natAbs < 512) : a = b := by
  have e : (a % 512).toNat = (b % 512).toNat := same
  omega

theorem openRow_eq_some_iff {m : WallMap} {n : Int} {rr : RowRecord} :
    openRow m n = some rr ↔ m.rows.getD (rowSlot n) none = some rr ∧ rr.row = n := by
  unfold openRow
  cases h : m.rows.getD (rowSlot n) none with
  | none => simp
  | some r =>
    by_cases e : r.row = n
    · simp only [if_pos e, Option.some.injEq]
      exact ⟨fun h => ⟨h, h ▸ e⟩, fun h => h.1⟩
    · simp only [if_neg e, Option.some.injEq]
      exact ⟨nofun, fun h => absurd (h.1 ▸ h.2) e⟩

theorem openRow_takeRow_same {m : WallMap} (slots : m.rows.length = 512) (rr : RowRecord) :
    openRow (m.takeRow rr) rr.row = some rr := by
  rw [openRow_eq_some_iff, WallMap.takeRow, getD_set_none, if_pos ⟨rfl, by rw [slots]; exact rowSlot_lt _⟩]
  exact ⟨rfl, rfl⟩

theorem openRow_takeRow_other {m : WallMap} {rr : RowRecord} {n : Int} (other : rowSlot n ≠ rowSlot rr.row) :
    openRow (m.takeRow rr) n = openRow m n := by
  unfold openRow
  rw [WallMap.takeRow, getD_set_none, if_neg fun h => other h.1]

section
variable {m : WallMap} {r : RowRange} {rr : RowRecord}

theorem OpenRun.isSome (run : OpenRun m r) {n : Int} (low : r.front ≤ n) (high : n ≤ r.top) : ∃ old, openRow m n = some old :=
  Option.isSome_iff_exists.mp ((run.rows n).mpr ⟨low, high⟩)

theorem OpenRun.takeRow_other (run : OpenRun m r) (fits : rr.row < r.front + 512) (low : r.front ≤ rr.row) {n : Int}
    (front : r.front ≤ n) (top : n ≤ r.top) (other : n ≠ rr.row) : openRow (m.takeRow rr) n = openRow m n := by
  have depth := run.depth
  exact openRow_takeRow_other fun same => other (rowSlot_inj same (by omega))

/-- With the row taken, the open rows are the run up to the higher of its top and the row (R134). -/
theorem OpenRun.takeRow (run : OpenRun m r) (low : r.front ≤ rr.row) (next : rr.row ≤ r.top + 1) (fits : rr.row < r.front + 512) :
    OpenRun (m.takeRow rr) { r with top := max r.top rr.row } where
  range := by simp [WallMap.takeRow, run.range]
  slots := by simpa [WallMap.takeRow] using run.slots
  order := by have := run.order; simp only; omega
  depth := by have := run.depth; simp only; omega
  rows n := by
    have depth := run.depth
    simp only
    by_cases same : rowSlot n = rowSlot rr.row
    · by_cases e : n = rr.row
      · rw [e, openRow_takeRow_same run.slots]; simp; omega
      · have closed : openRow (m.takeRow rr) n = none := by
          rw [← Option.not_isSome_iff_eq_none, Option.isSome_iff_exists]
          rintro ⟨old, h⟩
          rw [openRow_eq_some_iff, WallMap.takeRow, getD_set_none, if_pos ⟨same, by rw [run.slots]; exact rowSlot_lt _⟩] at h
          exact e (Option.some.inj h.1 ▸ h.2.symm)
        rw [closed]
        refine ⟨nofun, fun h => absurd (rowSlot_inj same (by omega)) e⟩
    · have e : n ≠ rr.row := fun e => same (by rw [e])
      rw [openRow_takeRow_other same, run.rows]
      omega

theorem candidateWins_of_next (run : OpenRun m r) (score : Int) : candidateWins m (r.top + 1) score = true := by
  simp [candidateWins, run.range]

theorem candidateWins_of_open (run : OpenRun m r) {n : Int} {old : RowRecord} (open_ : openRow m n = some old) (score : Int) :
    candidateWins m n score = decide (score ≤ old.score) := by
  obtain ⟨low, high⟩ := (run.rows n).mp (by simp [open_])
  have notNext : n ≠ r.top + 1 := by omega
  simp [candidateWins, run.range, open_, low, high, notNext]

end

section
variable {s : State} {rr : RowRecord} {codes : List Byte}

theorem takeCandidate_of_winner (wins : candidateWins s.map rr.row rr.score = true) :
    takeCandidate rr codes s = { s with
      map := s.map.takeRow rr
      mem := s.mem.write (s.map.staging + BitVec.ofNat 32 ((rr.row % 512).toNat * s.map.width)) codes } := if_pos wins

theorem takeCandidate_of_loser (loses : candidateWins s.map rr.row rr.score = false) : takeCandidate rr codes s = s :=
  if_neg (by simp [loses])

end

/-- Settles O34. -/
theorem candidateTaken : Obligations.CandidateTaken := by
  intro s r rr codes run low next fits t staged
  have taken (wins : candidateWins s.map rr.row rr.score = true) :
      openRow t.map rr.row = some rr ∧ t.mem = staged ∧ OpenRun t.map { r with top := max r.top rr.row } := by
    have e : t = _ := takeCandidate_of_winner (codes := codes) wins
    rw [e]
    exact ⟨openRow_takeRow_same run.slots rr, rfl, run.takeRow low next fits⟩
  refine ⟨fun above => ?_, fun old open_ => ⟨fun better => ?_, fun worse => ?_⟩, fun n front top other => ?_, fun _ _ => rfl⟩
  · have opened := taken (by rw [above]; exact candidateWins_of_next run _)
    rwa [Int.max_eq_right (by omega)] at opened
  · have replaced := taken (by rw [candidateWins_of_open run open_, decide_eq_true better])
    have within : rr.row ≤ r.top := ((run.rows _).mp (by simp [open_])).2
    rwa [Int.max_eq_left within] at replaced
  · exact takeCandidate_of_loser (by rw [candidateWins_of_open run open_]; exact decide_eq_false (by omega))
  · cases wins : candidateWins s.map rr.row rr.score with
    | true =>
      have e : t = _ := takeCandidate_of_winner (codes := codes) wins
      rw [e]
      exact run.takeRow_other fits low front top other
    | false => rw [show t = s from takeCandidate_of_loser wins]

end Sys2Proof.Machine

/-! SUPPORT. Commits: the row that lands and the row that is issued (R137, R139, R146 to R150), and the statements about them. -/

namespace Sys2Proof.Machine

set_option Elab.async false

/-! ## Sinks that close (R147, R148) -/

theorem closeSink_eq (l : LaneId) (k : Sink) (code : DoneCode) (reason : Nat) (role : DoneRole) (s : State) :
    closeSink l k code reason role s = { s with doneWrites := s.doneWrites ++ [k.doneWord l code reason role] } := rfl

theorem closeAbandoned_eq (l : LaneId) (role : DoneRole) (sinks : List Sink) (s : State) : closeAbandoned l role sinks s =
    { s with doneWrites := s.doneWrites ++ sinks.map fun k => k.doneWord l .abandoned 0 role } := by
  induction sinks generalizing s with
  | nil => simp [closeAbandoned]
  | cons k ks ih => rw [closeAbandoned, ih, closeSink_eq]; simp

section
variable {l : LaneId} {s : State}

theorem waitingSinkJoins_of_none (lane : s.map.lane = some l) (none : ∀ w, (s.lane l).stage ≠ .sinkWait w) : waitingSinkJoins s = s := by
  unfold waitingSinkJoins
  rw [lane]
  dsimp only
  split
  · next w h => exact absurd h (none w)
  · rfl

theorem waitingSinkJoins_of_wait {w : StepWord} (lane : s.map.lane = some l) (stage : (s.lane l).stage = .sinkWait w)
    (room : s.map.sinks.length < 8) : waitingSinkJoins s = joinSink l w s := by
  unfold waitingSinkJoins
  simp only [lane, stage]
  exact if_pos room

theorem closeFull_of_room {k : Sink} {ks : List Sink} (sinks : s.map.sinks = k :: ks) (room : k.written ≠ k.capacity) :
    closeFull l s = s := by
  simp only [closeFull, sinks, if_neg room]

theorem closeFull_of_full {k : Sink} {ks : List Sink} (sinks : s.map.sinks = k :: ks) (full : k.written = k.capacity) :
    closeFull l s = waitingSinkJoins { s with
      map := { s.map with sinks := ks }, doneWrites := s.doneWrites ++ [k.doneWord l .done 0 .sinkFull] } := by
  simp only [closeFull, sinks, if_pos full]
  rfl

/-! ## What follows a landed row (R137, R139, R153) -/

section
variable {c : Commit}

theorem afterCommit_of_sink {k : Sink} {ks : List Sink} (more : c.row < c.last) (sinks : s.map.sinks = k :: ks) :
    afterCommit l c s = issueCommit k (c.row + 1) c.last s := by
  rw [afterCommit, if_pos more, drainRow]
  simp only [sinks, ite_self]

theorem afterCommit_of_starved (more : c.row < c.last) (sinks : s.map.sinks = []) (drains : s.map.phase = .draining) :
    afterCommit l c s = starveDrain l (c.row + 1) s := by
  rw [afterCommit, if_pos more, if_pos drains, drainRow]
  simp only [sinks]

theorem afterCommit_of_drained (last : c.last ≤ c.row) (drains : s.map.phase = .draining) : afterCommit l c s = endDrain l s := by
  rw [afterCommit, if_neg (by omega), if_pos drains]

theorem afterCommit_of_admission (last : c.last ≤ c.row) (surveys : s.map.phase ≠ .draining) :
    afterCommit l c s = endAdmission l s := by
  rw [afterCommit, if_neg (by omega), if_neg surveys]

end

theorem endAdmission_of_patch (patch : ∀ r, s.rect.render = some r → ∃ o j, r.job = .patch o j) : endAdmission l s = s := by
  have none : renderLast s = none := by
    unfold renderLast
    split
    · next r found =>
      obtain ⟨o, j, job⟩ := patch r found
      simp only [job]
    · rfl
  simp only [endAdmission, none]

theorem endAdmission_of_survey {r : Render} {n1 : Int} {n : Int} (render : s.rect.render = some r) (job : r.job = .survey n1 n) :
    endAdmission l s = forcedHold l n1 s := by
  have last : renderLast s = some n1 := by simp only [renderLast, render, job]
  simp only [endAdmission, last]

/-- The forced hold is due at an admission that ends at row `n1` (R139). -/
abbrev HoldDue (s : State) (l : LaneId) (n1 : Int) : Prop :=
  s.map.holdRowUsed = false ∧ (s.lane l).options.holdRowValid = true ∧ (s.lane l).options.holdPermit = true ∧ (s.lane l).holdRow ≤ n1

/-- The lane of the survey can be made to hold (R139). -/
abbrev CanHold (s : State) (l : LaneId) : Prop :=
  s.trigger.armed.isSome = true ∧ s.map.ending = .none ∧ ((s.lane l).state = .running ∨ (s.lane l).state = .suspended)

theorem forcedHold_of_not_due {n1 : Int} (h : ¬ HoldDue s l n1) : forcedHold l n1 s = s :=
  if_neg fun g => h (by simpa using g)

theorem forcedHold_of_due {n1 : Int} (due : HoldDue s l n1) (can : CanHold s l) : forcedHold l n1 s =
    State.withLane { s with map := { s.map with holdRowUsed := true } } l { s.lane l with holdPending := true } := by
  have open_ : ¬ s.map.holdRowUsed = true ∧ (s.lane l).options.holdRowValid = true ∧ (s.lane l).options.holdPermit = true
      ∧ (s.lane l).holdRow ≤ n1 := by simpa using due
  exact (if_pos open_).trans (if_pos can)

theorem forcedHold_of_unable {n1 : Int} (due : HoldDue s l n1) (cannot : ¬ CanHold s l) :
    forcedHold l n1 s = { s with map := { s.map with holdRowUsed := true } } := by
  have open_ : ¬ s.map.holdRowUsed = true ∧ (s.lane l).options.holdRowValid = true ∧ (s.lane l).options.holdPermit = true
      ∧ (s.lane l).holdRow ≤ n1 := by simpa using due
  exact (if_pos open_).trans (if_neg cannot)

/-! ## A row of the bound survey lands (R146) -/

theorem lateCommitOf_eq_none (absent : ∀ q ∈ s.lateCommits, q.lane ≠ l) : lateCommitOf s l = none := by
  simpa [lateCommitOf] using absent

theorem lateCommitOf_of_append {before after : List LateCommit} {c : Commit} {sinks : List Sink}
    (late : s.lateCommits = before ++ ⟨l, c, sinks⟩ :: after) (others : ∀ q ∈ before ++ after, q.lane ≠ l) :
    lateCommitOf s l = some ⟨l, c, sinks⟩ := by
  rw [lateCommitOf, late, List.find?_append, List.find?_eq_none.mpr (by simpa using fun q hq => others q (by simp [hq]))]
  simp

theorem dropLateCommit_of_append {before after : List LateCommit} {c : Commit} {sinks : List Sink}
    (late : s.lateCommits = before ++ ⟨l, c, sinks⟩ :: after) (others : ∀ q ∈ before ++ after, q.lane ≠ l) :
    dropLateCommit l s = { s with lateCommits := before ++ after } := by
  have kept : (before ++ after).filter (fun q => decide (q.lane ≠ l)) = before ++ after :=
    List.filter_eq_self.mpr fun q hq => decide_eq_true (others q hq)
  rw [← kept, dropLateCommit, late]
  simp

theorem exec_rowCommitEnd_of_late {q : LateCommit} (late : lateCommitOf s l = some q) (stores : Stores) :
    exec (.rowCommitEnd l stores) s = .next (landLateCommit q ((dropLateCommit l s).withStores stores)) := by
  rw [show exec (.rowCommitEnd l stores) s = execRowCommitEnd l stores s from rfl]
  unfold execRowCommitEnd
  rw [late]

theorem exec_rowCommitEnd_of_bound {c : Commit} (lane : s.map.lane = some l) (commit : s.map.commit = some c)
    (absent : ∀ q ∈ s.lateCommits, q.lane ≠ l) (stores : Stores) : exec (.rowCommitEnd l stores) s
      = .next (afterCommit l c (closeFull l (landCommit l c { s with mem := s.mem.afterStores stores }))) := by
  rw [show exec (.rowCommitEnd l stores) s = execRowCommitEnd l stores s from rfl]
  unfold execRowCommitEnd
  rw [lateCommitOf_eq_none absent]
  simp only [lane, commit, if_true]
  rfl

theorem landCommit_eq (l : LaneId) (c : Commit) {s : State} {k : Sink} {ks : List Sink} (sinks : s.map.sinks = k :: ks) :
    landCommit l c s = State.withLane { s with
      mem := s.mem.write c.addr c.bytes
      map := { s.map with
        commit := none, rows := s.map.rows.set (rowSlot c.row) none
        sinks := { k with written := k.written + 1, firstRow := if k.written = 0 then c.row else k.firstRow } :: ks
        range := s.map.range.map fun r => ⟨c.row + 1, max r.top c.row⟩
        committedInDrain := if s.map.phase = .draining then s.map.committedInDrain + 1 else s.map.committedInDrain } } l
      { s.lane l with counters := { (s.lane l).counters with
        committed := min (2 ^ 32 - 1) ((s.lane l).counters.committed + 1)
        gaps := if c.gap then min (2 ^ 32 - 1) ((s.lane l).counters.gaps + 1) else (s.lane l).counters.gaps } } := by
  have head : updateAt (fun q : Sink => { q with written := q.written + 1, firstRow := if q.written = 0 then c.row else q.firstRow }) 0
      s.map.sinks = { k with written := k.written + 1, firstRow := if k.written = 0 then c.row else k.firstRow } :: ks := by
    rw [sinks]; rfl
  rw [← head]
  rfl

end

/-- What the rest of an admission or a drain asks of the state of a landed row is what the row found. -/
structure Landed (l : LaneId) (s u : State) : Prop where
  phase : u.map.phase = s.map.phase
  rect : u.rect = s.rect
  due : ∀ n1, HoldDue u l n1 ↔ HoldDue s l n1
  can : CanHold u l ↔ CanHold s l

theorem Landed.of_lane {l : LaneId} {s u : State} {z : Lane} (lane : u.lane l = z) (options : z.options = (s.lane l).options := by rfl)
    (row : z.holdRow = (s.lane l).holdRow := by rfl) (state : z.state = (s.lane l).state := by rfl)
    (phase : u.map.phase = s.map.phase := by rfl) (rect : u.rect = s.rect := by rfl)
    (used : u.map.holdRowUsed = s.map.holdRowUsed := by rfl) (trigger : u.trigger = s.trigger := by rfl)
    (ending : u.map.ending = s.map.ending := by rfl) : Landed l s u where
  phase := phase
  rect := rect
  due n1 := by unfold HoldDue; rw [lane, used, options, row]
  can := by unfold CanHold; rw [lane, trigger, ending, state]

/-- Settles O35. -/
theorem rowCommitEnds : Obligations.RowCommitEnds := by
  refine ⟨fun l s c k ks stores bound commit sinks absent _ => ?_, fun l s before after c sinks stores late others => ?_⟩
  · intro x drains k' y landed closed joined now hold able goesOn
    have land : landCommit l c { s with mem := s.mem.afterStores stores } = landed (k' :: ks) := landCommit_eq l c sinks
    have ends {u : State} (h : closeFull l (landed (k' :: ks)) = u) : exec (.rowCommitEnd l stores) s = .next (afterCommit l c u) := by
      rw [← h, ← land]
      exact exec_rowCommitEnd_of_bound bound commit absent stores
    have onward {u : State} (closes : closeFull l (landed (k' :: ks)) = u) (rest : Landed l s u) : goesOn u := by
      have next {t : State} (h : afterCommit l c u = t) : now t := (ends closes).trans (congrArg _ h)
      have phase (h : drains) : u.map.phase = .draining := rest.phase.trans h
      have surveys (h : ¬ drains) : u.map.phase ≠ .draining := fun g => h (rest.phase.symm.trans g)
      refine ⟨fun k2 ks2 more u_sinks => next (afterCommit_of_sink more u_sinks),
        fun more u_sinks h => next (afterCommit_of_starved more u_sinks (phase h)),
        fun last h => next (afterCommit_of_drained last (phase h)), fun last h patch => ?_, fun r n1 n last h render job => ?_⟩
      · exact next ((afterCommit_of_admission last (surveys h)).trans (endAdmission_of_patch (by rw [rest.rect]; exact patch)))
      · have admits := (afterCommit_of_admission last (surveys h)).trans
          (endAdmission_of_survey (l := l) (by rw [rest.rect]; exact render) job)
        exact ⟨fun early => next (admits.trans (forcedHold_of_not_due (mt (rest.due n1).mp early))),
          fun due can => next (admits.trans (forcedHold_of_due ((rest.due n1).mpr due) (rest.can.mpr can))),
          fun due cannot => next (admits.trans (forcedHold_of_unable ((rest.due n1).mpr due) (mt rest.can.mp cannot)))⟩
    have lane (q : List Sink) : (closed q).lane l = y := State.withLane_lane_same ..
    refine ⟨fun room => ?_, fun full none => ?_, fun w full stage room halt => ?_, fun a outside => ?_⟩
    · exact onward (closeFull_of_room (k := k') (ks := ks) rfl room) (.of_lane (State.withLane_lane_same ..))
    · refine onward ((closeFull_of_full (k := k') (ks := ks) rfl full).trans ?_) (.of_lane (lane ks))
      exact waitingSinkJoins_of_none (s := closed ks) bound (by rw [lane]; exact none)
    · have joins : closeFull l (landed (k' :: ks)) = joinSink l w (closed ks) :=
        (closeFull_of_full (k := k') (ks := ks) rfl full).trans
          (waitingSinkJoins_of_wait (s := closed ks) bound (by rw [lane]; exact stage) room)
      obtain ⟨free, held, -⟩ := joinSink_cases l w (closed ks)
        (u := closed (ks ++ [⟨x.programAddr, BitVec.ofNat 32 (w.operand 16 4), w.operand 20 2, 0, 0, w.noteFlag⟩]))
        (by rw [lane]; rfl)
      rw [lane] at free held
      exact ⟨fun hold => onward (joins.trans (free halt hold)) (.of_lane (State.withLane_lane_same ..)),
        fun hold => onward (joins.trans (held halt hold)) (.of_lane (State.withLane_lane_same ..))⟩
    · exact Memory.byteAt_write_of_outside outside
  · intro n counted
    have counts : updateAt (fun q : Sink => { q with written := q.written + 1, firstRow := if q.written = 0 then c.row else q.firstRow }) 0
        sinks = counted := by
      simp only [counted]
      cases sinks <;> rfl
    rw [exec_rowCommitEnd_of_late (lateCommitOf_of_append late others), dropLateCommit_of_append late others, landLateCommit,
      closeAbandoned_eq, counts]
    rfl

/-! ## What a commit issues (R146, R149, R150) -/

section
variable {l : LaneId} {w : StepWord} {s : State} {q : Marker} {qs : List Marker} {n : Int}

/-- A marker goes with row `n`: its target is first row, or not above the row (R150). -/
abbrev TakesRow (q : Marker) (n : Int) : Prop := ∀ t, q.target = some t → t ≤ n

theorem markerFor_of_taken (markers : s.map.markers = q :: qs) (takes : TakesRow q n) : markerFor s.map n = some q.label := by
  unfold markerFor
  rw [markers]
  cases target : q.target with
  | none => simp only [target]
  | some t => simp only [target, if_pos (takes t target)]

theorem markerFor_of_left (markers : s.map.markers = q :: qs) (left : ¬ TakesRow q n) : markerFor s.map n = none := by
  unfold markerFor
  rw [markers]
  cases target : q.target with
  | none => exact absurd (fun t h => by simp [target] at h) left
  | some t =>
    have above : ¬ t ≤ n := fun h => left fun u e => by rw [target] at e; exact Option.some.inj e ▸ h
    simp only [target, if_neg above]

theorem markerFor_of_empty (markers : s.map.markers = []) : markerFor s.map n = none := by
  unfold markerFor
  rw [markers]

theorem waitingMarkJoins_of_none (none : ¬ ∃ l w, s.map.lane = some l ∧ (s.lane l).stage = .markWait w) : waitingMarkJoins s = s := by
  unfold waitingMarkJoins
  split
  · rfl
  · next l lane =>
    split
    · next w stage => exact absurd ⟨l, w, lane, stage⟩ none
    · rfl

theorem waitingMarkJoins_of_wait (lane : s.map.lane = some l) (stage : (s.lane l).stage = .markWait w)
    (room : s.map.markers.length < 16) : waitingMarkJoins s = joinMark l w s := by
  unfold waitingMarkJoins
  simp only [lane, stage]
  exact if_pos room

theorem placeMarker_of_none (marker : markerFor s.map n = none) : placeMarker n s = s := by
  simp only [placeMarker, marker]

theorem placeMarker_of_some {label : Word} (markers : s.map.markers = q :: qs) (marker : markerFor s.map n = some label) :
    placeMarker n s = waitingMarkJoins { s with map := { s.map with markers := qs } } := by
  simp only [placeMarker, marker, markers]
  rfl

end

/-- The bytes of a committed row (R146). -/
def commitBytes (s : State) (n : Int) (label : Option Word) : List Byte :=
  sinkRowHeader n (openRow s.map n) label ++ committedCodes s.map s.mem n

/-- The commit of row `n` with the marker of `label`, the markers `left` and the row's own bytes (R146). -/
def State.issued (s : State) (k : Sink) (n last : Int) (left : List Marker) (label : Option Word) : State :=
  { s with map := { s.map with
    markers := left
    commit := some (Commit.mk n last (openRow s.map n).isNone (sinkRowAddr s.map k) (commitBytes s n label)) } }

section
variable {l : LaneId} {w : StepWord} {s : State} {q : Marker} {qs : List Marker} {n : Int}

theorem issueCommit_of_placed {left : List Marker} {label : Option Word} (k : Sink) (last : Int) (marker : markerFor s.map n = label)
    (placed : placeMarker n s = { s with map := { s.map with markers := left } }) :
    issueCommit k n last s = s.issued k n last left label := by
  simp only [issueCommit, marker, placed]
  rfl

theorem issueCommit_of_empty (markers : s.map.markers = []) (k : Sink) (last : Int) :
    issueCommit k n last s = s.issued k n last [] none :=
  issueCommit_of_placed k last (markerFor_of_empty markers)
    ((placeMarker_of_none (markerFor_of_empty markers)).trans (by rw [← markers]))

theorem issueCommit_of_left (markers : s.map.markers = q :: qs) (left : ¬ TakesRow q n) (k : Sink) (last : Int) :
    issueCommit k n last s = s.issued k n last (q :: qs) none :=
  issueCommit_of_placed k last (markerFor_of_left markers left)
    ((placeMarker_of_none (markerFor_of_left markers left)).trans (by rw [← markers]))

theorem issueCommit_of_taken (markers : s.map.markers = q :: qs) (takes : TakesRow q n)
    (absent : ¬ ∃ l w, s.map.lane = some l ∧ (s.lane l).stage = .markWait w) (k : Sink) (last : Int) :
    issueCommit k n last s = s.issued k n last qs (some q.label) :=
  issueCommit_of_placed k last (markerFor_of_taken markers takes)
    ((placeMarker_of_some markers (markerFor_of_taken markers takes)).trans (waitingMarkJoins_of_none absent))

theorem issueCommit_of_joined (markers : s.map.markers = q :: qs) (takes : TakesRow q n) (lane : s.map.lane = some l)
    (stage : (s.lane l).stage = .markWait w) (room : qs.length < 16) (k : Sink) (last : Int) : issueCommit k n last s =
      (s.issued k n last (qs ++ [⟨BitVec.ofNat 32 (w.operand 16 4), s.map.range.map (·.front)⟩]) (some q.label)).ended l w .done
        (markResults (s.map.range.map (·.front))) .advance := by
  have placed : placeMarker n s = _ := (placeMarker_of_some markers (markerFor_of_taken markers takes)).trans
    ((waitingMarkJoins_of_wait (s := { s with map := { s.map with markers := qs } }) lane stage room).trans (joinMark_eq ..))
  simp only [issueCommit, markerFor_of_taken markers takes, placed]
  rfl

end

/-- Settles O36. -/
theorem commitIssued : Obligations.CommitIssued := by
  intro k n last s waits addr place issued row gapRow takes
  have rowIssued {r : RowRecord} (open_ : openRow s.map n = some r) (left : List Marker) :
      s.issued k n last left none = issued false left (row r 0 0)
        ∧ ∀ label, s.issued k n last left (some label) = issued false left (row r label 2) := by
    simp only [State.issued, commitBytes, committedCodes, open_]
    exact ⟨rfl, fun _ => rfl⟩
  have gapIssued (closed : openRow s.map n = none) (left : List Marker) :
      s.issued k n last left none = issued true left (gapRow 0 0)
        ∧ ∀ label, s.issued k n last left (some label) = issued true left (gapRow label 2) := by
    simp only [State.issued, commitBytes, committedCodes, closed]
    exact ⟨rfl, fun _ => rfl⟩
  refine ⟨fun r open_ => ⟨fun empty => ?_, fun q qs markers => ⟨fun taken absent => ?_, fun left => ?_⟩⟩,
    fun closed => ⟨fun empty => ?_, fun q qs markers => ⟨fun taken absent => ?_, fun left => ?_⟩⟩,
    fun q qs l w markers taken lane stage room => ?_⟩
  · rw [issueCommit_of_empty empty, (rowIssued open_ _).1]
  · rw [issueCommit_of_taken markers taken absent, (rowIssued open_ _).2]
  · rw [issueCommit_of_left markers left, (rowIssued open_ _).1]
  · rw [issueCommit_of_empty empty, (gapIssued closed _).1]
  · rw [issueCommit_of_taken markers taken absent, (gapIssued closed _).2]
  · rw [issueCommit_of_left markers left, (gapIssued closed _).1]
  · intro joined ended
    rw [issueCommit_of_joined markers taken lane stage room, markResults_eq]
    exact ⟨fun r open_ => by rw [(rowIssued open_ _).2] <;> rfl, fun closed => by rw [(gapIssued closed _).2] <;> rfl⟩

end Sys2Proof.Machine

/-! SUPPORT. The drain (R148, R152 to R154), and the statement about it. -/

namespace Sys2Proof.Machine

set_option Elab.async false

/-! ## The end of a drain (R148, R153, R154) -/

theorem closeLeft_eq (l : LaneId) (sinks : List Sink) (s : State) : closeLeft l sinks s = { s with
    doneWrites := s.doneWrites ++ sinks.map fun k => k.doneWord l .exception (if k.written = 0 then 2 else 1) .sinkClose } := by
  induction sinks generalizing s with
  | nil => simp [closeLeft]
  | cons k ks ih => rw [closeLeft, ih, closeSink_eq]; simp

/-- The survey of lane `l` at the end of its drain, waiting for its sinks' done words (R154). -/
def State.drained (u : State) (l : LaneId) : State :=
  State.withLane { u with
    doneWrites := u.doneWrites
      ++ u.map.sinks.map fun k => k.doneWord l .exception (if k.written = 0 then 2 else 1) .sinkClose
    map := { u.map with
      markers := [], sinks := [], phase := .closing, commit := none, unplacedInDrain := u.map.markers.length } } l { u.lane l with
    counters := { (u.lane l).counters with
      unplaced := min (2 ^ 32 - 1) ((u.lane l).counters.unplaced + u.map.markers.length) } }

/-- The survey of lane `l` with no sink left for row `n` (R153). -/
def State.starved (u : State) (l : LaneId) (n : Int) (lost : Nat) : State :=
  State.withLane { u with map := { u.map with
    rows := List.replicate 512 none, range := some ⟨n, n - 1⟩, discardedInDrain := lost, starvedDrain := true } } l { u.lane l with
    counters := { (u.lane l).counters with discarded := min (2 ^ 32 - 1) ((u.lane l).counters.discarded + lost) } }

section
variable {l : LaneId} {u : State}

theorem endDrain_eq (l : LaneId) (u : State) : endDrain l u = unbindWhenClosed (u.drained l) := by
  simp only [endDrain, closeLeft_eq]
  rfl

theorem drained_closers_iff : (∀ d ∈ (u.drained l).doneWrites, d.role ≠ .sinkClose) ↔
    ¬ (u.map.sinks ≠ [] ∨ ∃ d ∈ u.doneWrites, d.role = .sinkClose) := by
  have split (d : DoneWrite) : d ∈ (u.drained l).doneWrites ↔ d ∈ u.doneWrites ∨ d ∈ u.map.sinks.map
      fun k => k.doneWord l .exception (if k.written = 0 then 2 else 1) .sinkClose := List.mem_append
  simp only [split]
  constructor
  · rintro none (sinks | ⟨d, mem, role⟩)
    · obtain ⟨k, hk⟩ := List.exists_mem_of_ne_nil _ sinks
      exact none _ (.inr (List.mem_map_of_mem hk)) rfl
    · exact none d (.inl mem) role
  · intro words d mem role
    rcases mem with mem | mem
    · exact words (.inr ⟨d, mem, role⟩)
    · exact words (.inl fun empty => by simp [empty] at mem)

theorem endDrain_of_words (words : u.map.sinks ≠ [] ∨ ∃ d ∈ u.doneWrites, d.role = .sinkClose) : endDrain l u = u.drained l :=
  (endDrain_eq l u).trans (unbindWhenClosed_of_open fun h => drained_closers_iff.mp h.2 words)

theorem endDrain_of_no_words (none : ¬ (u.map.sinks ≠ [] ∨ ∃ d ∈ u.doneWrites, d.role = .sinkClose)) :
    endDrain l u = endSurveyNow (u.drained l) :=
  (endDrain_eq l u).trans (unbindWhenClosed_of_closed rfl (drained_closers_iff.mpr none))

theorem starveDrain_eq {n : Int} {r : RowRange} (range : u.map.range = some r) :
    starveDrain l n u = endDrain l (u.starved l n (r.top + 1 - n).toNat) := by
  have lost : (match u.map.range with | some r => (r.top + 1 - n).toNat | none => 0) = (r.top + 1 - n).toNat := by rw [range]
  have mapped : u.map.range.map (fun _ => (⟨n, n - 1⟩ : RowRange)) = some ⟨n, n - 1⟩ := by rw [range]; rfl
  rw [State.starved, ← lost, ← mapped]
  rfl

/-- The survey with no sinks at the end of its drain: its map unbinds at once. -/
theorem drained_mapUnbound (sinks : u.map.sinks = []) : (u.drained l).mapUnbound = u.mapUnbound.withLane l { u.lane l with
    counters := { (u.lane l).counters with
      unplaced := min (2 ^ 32 - 1) ((u.lane l).counters.unplaced + u.map.markers.length) } } := by
  unfold State.drained
  rw [sinks, List.map_nil, List.append_nil]
  rfl

/-- The drain of a survey without sinks ends, and no done word is left to wait for (R33, R154). -/
theorem endDrain_alone (bound : u.map.lane = some l) (sinks : u.map.sinks = []) (clean : u.map.faulted = false)
    (closed : ∀ d ∈ u.doneWrites, d.role ≠ .sinkClose) {y : Lane}
    (lane : { u.lane l with counters := { (u.lane l).counters with
      unplaced := min (2 ^ 32 - 1) ((u.lane l).counters.unplaced + u.map.markers.length) } } = y) :
    (∀ w, u.map.ending = .endTaken → y.stage = .endWait w →
        (u.map.starvedDrain = false → endDrain l u = (u.mapUnbound.withLane l y).ended l w .done
          (le 4 u.map.committedInDrain ++ le 4 u.map.discardedInDrain ++ le 1 u.map.markers.length ++ zeros 3) .advance)
        ∧ (u.map.starvedDrain = true → endDrain l u = (u.mapUnbound.withLane l y).ended l w .exception
          (le 4 u.map.committedInDrain ++ le 4 u.map.discardedInDrain ++ le 1 u.map.markers.length ++ 1 :: zeros 2) .advanceStarved))
      ∧ (u.map.ending = .programEnded →
        (u.map.starvedDrain = false → endDrain l u
            = raiseStatus l { secondary := true } {} (u.mapUnbound.withLane l { y with state := .idle }))
        ∧ (u.map.starvedDrain = true → endDrain l u = raiseStatus l { secondary := true, alert := true } {}
            (u.mapUnbound.withLane l { y with state := .idle, completion := .drainStarved }))) := by
  have ends : endDrain l u = endSurveyNow (u.drained l) :=
    endDrain_of_no_words (fun h => h.elim (· sinks) fun ⟨d, mem, role⟩ => closed d mem role)
  have there : (u.drained l).lane l = y := (State.withLane_lane_same ..).trans lane
  have results (reason : Nat) : endResults (u.drained l).map reason = le 4 u.map.committedInDrain ++ le 4 u.map.discardedInDrain
      ++ le 1 u.map.markers.length ++ BitVec.ofNat 8 reason :: zeros 2 := by
    simp only [endResults, List.append_assoc]
    rfl
  have unbound : (u.drained l).mapUnbound = u.mapUnbound.withLane l y := by rw [drained_mapUnbound sinks, lane]
  obtain ⟨-, taken, program⟩ := endSurveyNow_cases (u := u.drained l) bound
  simp only [there, unbound, results, State.withLane_withLane, ← ends] at taken program
  exact ⟨fun w ending stage => taken w clean ending stage, fun ending => program clean ending⟩

end

/-! ## DRAIN_BEGIN (R152, R153) -/

section
variable {l : LaneId} {s : State}

/-- A drain can begin (R152). -/
structure DrainDue (s : State) (l : LaneId) : Prop where
  bound : s.map.lane = some l
  ending : s.map.ending ≠ .none
  phase : s.map.phase = .surveying
  commit : s.map.commit = none
  hand : noFramesInHand s l = true

/-- The drain has begun. -/
def State.draining (s : State) (stores : Stores) : State :=
  { s with mem := s.mem.afterStores stores, map := { s.map with phase := .draining } }

theorem exec_drainBegin_of_rows (due : DrainDue s l) {r : RowRange} (range : s.map.range = some r) (rows : r.front ≤ r.top)
    (stores : Stores) : exec (.drainBegin stores) s = .next (drainRow l r.front r.top (s.draining stores)) := by
  have begins : s.map.ending ≠ .none ∧ s.map.phase = .surveying ∧ s.map.commit = none ∧ noFramesInHand s l = true :=
    ⟨due.ending, due.phase, due.commit, due.hand⟩
  rw [show exec (.drainBegin stores) s = execDrainBegin stores s from rfl]
  unfold execDrainBegin
  simp only [due.bound, if_pos begins, range, if_pos rows, State.withStores, State.draining]

theorem exec_drainBegin_of_no_rows (due : DrainDue s l) (noRows : s.map.range = none ∨ ∃ r, s.map.range = some r ∧ r.top < r.front)
    (stores : Stores) : exec (.drainBegin stores) s = .next (endDrain l (s.draining stores)) := by
  have begins : s.map.ending ≠ .none ∧ s.map.phase = .surveying ∧ s.map.commit = none ∧ noFramesInHand s l = true :=
    ⟨due.ending, due.phase, due.commit, due.hand⟩
  rw [show exec (.drainBegin stores) s = execDrainBegin stores s from rfl]
  unfold execDrainBegin
  rcases noRows with range | ⟨r, range, empty⟩
  · simp only [due.bound, if_pos begins, range, State.withStores, State.draining]
  · simp only [due.bound, if_pos begins, range, if_neg (show ¬ r.front ≤ r.top by omega), State.withStores, State.draining]

theorem drainRow_of_sink {k : Sink} {ks : List Sink} (sinks : s.map.sinks = k :: ks) (n last : Int) :
    drainRow l n last s = issueCommit k n last s := by
  simp only [drainRow, sinks]

theorem drainRow_of_starved (sinks : s.map.sinks = []) (n last : Int) : drainRow l n last s = starveDrain l n s := by
  simp only [drainRow, sinks]

end

/-- Settles O37. -/
theorem drainBegins : Obligations.DrainBegins := by
  refine ⟨fun l s stores bound ending phase commit hand => ?_, fun l u => ?_⟩
  · intro x n v begun left alone unbound y noRows now
    have due : DrainDue s l := ⟨bound, ending, phase, commit, hand⟩
    have starts {r : RowRange} {t : State} (range : s.map.range = some r) (rows : r.front ≤ r.top) (h : drainRow l r.front r.top begun = t) :
        now t := (exec_drainBegin_of_rows due range rows stores).trans (congrArg _ h)
    have ends {t : State} (none : noRows) (h : endDrain l begun = t) : now t :=
      (exec_drainBegin_of_no_rows due none stores).trans (congrArg _ h)
    refine ⟨fun r k ks range rows sinks => starts range rows (drainRow_of_sink (s := begun) sinks _ _),
      fun r range rows sinks => starts range rows (drainRow_of_starved (s := begun) sinks _ _), fun none => ends none rfl,
      fun w none single taken stage => ?_, fun none single program => ?_, fun r range rows single => ?_⟩
    · obtain ⟨sinks, clean, fed, closed⟩ := single
      exact ends none ((((endDrain_alone (u := begun) (y := y) bound sinks clean closed rfl).1 w taken stage).1 fed))
    · obtain ⟨sinks, clean, fed, closed⟩ := single
      exact ends none ((endDrain_alone (u := begun) (y := y) bound sinks clean closed rfl).2 program |>.1 fed)
    · intro lost z
      obtain ⟨sinks, clean, fed, closed⟩ := single
      have starves {t : State} (h : endDrain l (begun.starved l r.front lost) = t) : now t :=
        starts range rows ((drainRow_of_starved (s := begun) sinks _ _).trans ((starveDrain_eq (u := begun) range).trans h))
      have lane : (begun.starved l r.front lost).lane l = { x with counters := { n with
          discarded := min (2 ^ 32 - 1) (n.discarded + lost) } } := State.withLane_lane_same ..
      have final := endDrain_alone (u := begun.starved l r.front lost) (y := z) bound sinks clean closed (by rw [lane]; rfl)
      have unbinds (q : Lane) : (begun.starved l r.front lost).mapUnbound.withLane l q = unbound.withLane l q :=
        State.withLane_withLane unbound l _ q
      simp only [unbinds] at final
      exact ⟨fun w taken stage => starves ((final.1 w taken stage).2 rfl), fun program => starves ((final.2 program).2 rfl)⟩
  · intro x left closing words
    exact ⟨endDrain_of_words, endDrain_of_no_words, fun n r range => starveDrain_eq range⟩

end Sys2Proof.Machine

/-! SUPPORT. Map faults (R34, R83, R155, R157), and the statement about them. -/

namespace Sys2Proof.Machine

set_option Elab.async false

/-! ## The map's side of a map fault (R83, R148, R155) -/

/-- The done words of the sinks that a map fault closes (R148, R155). -/
def faultWords (l : LaneId) (onSinkWrite : Bool) : List Sink → List DoneWrite
  | [] => []
  | k :: ks => (if onSinkWrite then k.doneWord l .exception 3 .sinkClose else k.doneWord l .abandoned 0 .sinkClose)
      :: ks.map fun q => q.doneWord l .abandoned 0 .sinkClose

theorem faultWords_role {l : LaneId} {b : Bool} {sinks : List Sink} {d : DoneWrite} (mem : d ∈ faultWords l b sinks) :
    d.role = .sinkClose := by
  cases sinks with
  | nil => simp [faultWords] at mem
  | cons k ks =>
    rcases List.mem_cons.mp mem with rfl | mem
    · cases b <;> rfl
    · obtain ⟨q, -, rfl⟩ := List.mem_map.mp mem
      rfl

theorem closeFaulted_eq (l : LaneId) (b : Bool) (sinks : List Sink) (s : State) :
    closeFaulted l b sinks s = { s with doneWrites := s.doneWrites ++ faultWords l b sinks } := by
  cases b <;> cases sinks <;> simp [closeFaulted, closeAbandoned_eq, closeSink_eq, faultWords]

/-- The slot that a survey render of lane `l` reads at a map fault. -/
def faultSlot (s : State) (l : LaneId) : Option Nat := if surveyRenderOf s l then renderSlot s else none

/-- The survey of lane `l` ended by a map fault, waiting for its sinks' done words (R155). -/
def State.surveyFaulted (s : State) (l : LaneId) (onSinkWrite : Bool) : State := { s with
  trigger := if s.trigger.armed = some l then { s.trigger with armed := none, hw := none, pending := false } else s.trigger
  requests := s.requests.filter fun q => !Request.isSurveyOf l q
  slots := (faultSlot s l).elim (s.slots.map (Slot.surveyDropped l)) fun i =>
    updateAt Slot.renderEnded i (s.slots.map (Slot.surveyDropped l))
  rect := if (faultSlot s l).isSome then { s.rect with render := none } else s.rect
  doneWrites := s.doneWrites ++ faultWords l onSinkWrite s.map.sinks
  map := { s.map with
    rows := List.replicate 512 none, range := s.map.range.map fun r => ⟨r.front, r.front - 1⟩, sinks := [], markers := []
    commit := none, phase := .closing, faulted := true } }

theorem dropSurveyFrames_disarmed (l : LaneId) (s : State) : dropSurveyFrames l (disarmTrigger l s) = { s with
    trigger := if s.trigger.armed = some l then { s.trigger with armed := none, hw := none, pending := false } else s.trigger
    requests := s.requests.filter fun q => !Request.isSurveyOf l q
    slots := s.slots.map (Slot.surveyDropped l) } := by
  rw [disarmTrigger_eq]; rfl

theorem mapFaultSurvey_eq (l : LaneId) (b : Bool) (s : State) : mapFaultSurvey l b s = s.surveyFaulted l b := by
  have same (tr : Trigger) (rq : List Request) (sl : List Slot) :
      surveyRenderOf { s with trigger := tr, requests := rq, slots := sl } l = surveyRenderOf s l := rfl
  simp only [mapFaultSurvey, closeFaulted_eq, dropSurveyFrames_disarmed, same]
  cases renders : surveyRenderOf s l with
  | false =>
    have slot : faultSlot s l = none := by simp [faultSlot, renders]
    simp only [State.surveyFaulted, slot]
    rfl
  | true =>
    obtain ⟨r, last, n, render, -⟩ := (surveyRenderOf_iff s l).mp renders
    have slot : faultSlot s l = some r.slot := by simp [faultSlot, renders, renderSlot, render]
    simp only [State.surveyFaulted, slot, if_true, renderOver, render]
    rfl

theorem surveyDropped_eq (l : LaneId) (q : Slot) : q.surveyDropped l = match q.record with
    | some e => if e.kind = .survey ∧ e.lane = l then
        (if q.state = .ready then { q with state := .done } else if q.state = .filling then { q with orphan := true } else q)
      else q
    | none => q := by
  unfold Slot.surveyDropped Slot.surveyFrameOf
  cases record : q.record with
  | none => simp
  | some e => by_cases h : e.kind = .survey ∧ e.lane = l <;> simp [h]

theorem faultSlot_eq {s : State} {l : LaneId} (bound : s.map.lane = some l) : faultSlot s l = match s.rect.render with
    | some r => match r.job with
      | .survey _ _ => if r.lane = l ∧ r.stopping = false then some r.slot else none
      | .patch _ _ => none
    | none => none := by
  unfold faultSlot surveyRenderOf renderSlot
  cases s.rect.render with
  | none => rfl
  | some r =>
    cases job : r.job with
    | patch _ _ => simp [job]
    | survey last n => simp [job, State.surveyOpen, bound]

/-! ## The lane's side (R34) -/

section
variable {l : LaneId} {s : State} {m : WallMap}

theorem mapFaultLane_of_draining (draining : (s.lane l).state = .draining) :
    mapFaultLane l m s = raiseAlert l (s.withLane l { s.lane l with completion := .fault }) := if_pos draining

theorem mapFaultLane_of_other (other : (s.lane l).state ≠ .draining) : mapFaultLane l m s =
    raiseStatus l { alert := true, primary := true } {} (faultStep l m (s.withLane l (s.lane l).faulted)) := if_neg other

theorem faultStep_of_wait {w : StepWord}
    (wait : (s.lane l).stage = .sinkWait w ∨ (s.lane l).stage = .markWait w ∨ (s.lane l).stage = .exposeWait w) :
    faultStep l m s = s.ended l w .abandoned (zeros 12) .advance := by
  rw [← endStep_eq_ended]
  rcases wait with h | h | h <;> simp only [faultStep, h]

theorem faultStep_of_end {w : StepWord} (wait : (s.lane l).stage = .endWait w) :
    faultStep l m s = s.ended l w .exception (endResults m 2) .advance := by
  rw [← endStep_eq_ended]
  simp only [faultStep, wait]

theorem faultStep_of_running (runs : (∃ w len, (s.lane l).stage = .tableRead w len)
    ∨ (∃ w, (s.lane l).stage = .exposeFlight w ∨ (s.lane l).stage = .renderWait w)
    ∨ (∃ after, (s.lane l).stage = .doneWrite after) ∨ (s.lane l).stage = .rest) : faultStep l m s = s := by
  rcases runs with ⟨w, len, h⟩ | ⟨w, h | h⟩ | ⟨after, h⟩ | h <;> simp only [faultStep, h]

theorem faultStep_of_dropped (drops : (s.lane l).stage = .fetch ∨ (s.lane l).stage = .boundary ∨ (s.lane l).stage = .blockRead
    ∨ (s.lane l).stage = .leftHold ∨ (∃ w, (s.lane l).stage = .tagged w ∨ (s.lane l).stage = .take w)) :
    faultStep l m s = s.withLane l { s.lane l with stage := .rest } := by
  rw [← State.setLane_eq_withLane s l fun x => { x with stage := .rest }]
  rcases drops with h | h | h | h | ⟨w, h | h⟩ <;> simp only [faultStep, h]

end

/-! ## MAP_FAULT (R155, R157) -/

/-- With the fault's effects done, the map unbinds at once when there is no sink's done word to wait for (R155 item 5). -/
theorem unbindWhenClosed_of_faulted {t : State} {words before extra : List DoneWrite} (closing : t.map.phase = .closing)
    (flight : t.doneWrites = before ++ words ++ extra) (closers : ∀ d ∈ words, d.role = .sinkClose)
    (own : ∀ d ∈ extra, d.role ≠ .sinkClose) :
    unbindWhenClosed t = if words = [] ∧ ∀ d ∈ before, d.role ≠ .sinkClose then endSurveyNow t else t := by
  have closed_iff : (∀ d ∈ t.doneWrites, d.role ≠ .sinkClose) ↔ words = [] ∧ ∀ d ∈ before, d.role ≠ .sinkClose := by
    simp only [flight, List.mem_append]
    constructor
    · intro all
      refine ⟨List.eq_nil_iff_forall_not_mem.mpr fun d mem => all d (.inl (.inr mem)) (closers d mem), fun d mem => all d (.inl (.inl mem))⟩
    · rintro ⟨rfl, all⟩ d ((mem | mem) | mem)
      · exact all d mem
      · exact absurd mem (List.not_mem_nil)
      · exact own d mem
  split
  · next h => exact unbindWhenClosed_of_closed closing (closed_iff.mpr h)
  · next h => exact unbindWhenClosed_of_open fun g => h (closed_iff.mp g.2)

theorem exec_mapFault_of_due {l : LaneId} {s : State} {access : MapAccess} (bound : s.map.lane = some l)
    (due : mapAccessDue s.map access = true) (left : Stores) : exec (.mapFault l access left) s
      = .next (mapFault l (decide (access = .sinkWrite)) { s with mem := s.mem.afterStores left }) :=
  if_pos ⟨(s.surveyOpen_iff l).mpr bound, due⟩

theorem exec_mapFault_of_late_write {l : LaneId} {s : State}
    (late : ¬ (s.map.lane = some l ∧ mapAccessDue s.map .stagingWrite = true)) (left : Stores) :
    exec (.mapFault l .stagingWrite left) s = .next { s with mem := s.mem.afterStores left } :=
  (if_neg fun h => late ⟨(s.surveyOpen_iff l).mp h.1, h.2⟩).trans (if_pos rfl)

theorem exec_mapFault_of_late_commit {l : LaneId} {s : State} {access : MapAccess} {q : LateCommit} (unbound : s.map.lane ≠ some l)
    (other : access ≠ .stagingWrite) (late : lateCommitOf s l = some q) (left : Stores) :
    exec (.mapFault l access left) s = .next (absorbLateFault q { s with mem := s.mem.afterStores left }) := by
  have closed : ¬ (s.surveyOpen l = true ∧ mapAccessDue s.map access = true) := fun h => unbound ((s.surveyOpen_iff l).mp h.1)
  rw [show exec (.mapFault l access left) s = execMapFault l access left s from rfl, execMapFault]
  rw [if_neg closed, if_neg other, late]
  rfl

/-- Settles O38. -/
theorem mapFaultEndsSurvey : Obligations.MapFaultEndsSurvey := by
  refine ⟨fun l s access left bound due => ?_, fun l s left late => ?_, fun l s before after c sinks access left late others unbound other => ?_⟩
  · intro x dropped rendering words closing y ends raised
    have dropped_eq : dropped = s.slots.map (Slot.surveyDropped l) :=
      List.map_congr_left fun q _ => (surveyDropped_eq l q).symm
    have rendering_eq : rendering = faultSlot s l := (faultSlot_eq bound).symm
    have words_eq : words = faultWords l (decide (access = .sinkWrite)) s.map.sinks := by
      simp only [words]
      cases s.map.sinks with
      | nil => rfl
      | cons k ks => simp only [faultWords, decide_eq_true_eq]
    have closing_eq : mapFaultSurvey l (decide (access = .sinkWrite)) { s with mem := s.mem.afterStores left } = closing := by
      have slot_eq : faultSlot { s with mem := s.mem.afterStores left } l = faultSlot s l := rfl
      rw [mapFaultSurvey_eq]
      simp only [closing, rendering_eq, dropped_eq, words_eq, State.surveyFaulted, slot_eq]
      cases faultSlot s l <;> rfl
    have faults {t : State} {extra : List DoneWrite} (own : ∀ d ∈ extra, d.role ≠ .sinkClose)
        (lane : mapFaultLane l s.map closing = t) (map : t.map = closing.map) (flight : t.doneWrites = s.doneWrites ++ words ++ extra) :
        ends t := by
      have roles : ∀ d ∈ words, d.role = .sinkClose := by rw [words_eq]; exact fun d => faultWords_role
      have unbinds := unbindWhenClosed_of_faulted (by rw [map]) flight roles own
      refine (exec_mapFault_of_due bound ((mapAccessDue_iff _ _).mpr due) left).trans (congrArg Host.Outcome.next ?_)
      rw [mapFault, closing_eq, lane, unbinds]
    have lane : closing.lane l = x := rfl
    have ofRaise {t : State} {extra : List DoneWrite} (own : ∀ d ∈ extra, d.role ≠ .sinkClose) (other : x.state ≠ .draining)
        (step : faultStep l s.map (closing.withLane l y) = t) (map : t.map = closing.map)
        (flight : t.doneWrites = s.doneWrites ++ words ++ extra) : raised t := by
      refine faults own ((mapFaultLane_of_other (s := closing) other).trans ?_) (by simp [map]) (by simp [flight])
      exact congrArg _ step
    have stage : ((closing.withLane l y).lane l).stage = x.stage := by rw [State.withLane_lane_same]
    have alone : s.doneWrites ++ words = s.doneWrites ++ words ++ [] := (List.append_nil _).symm
    refine ⟨fun draining => ?_, fun other => ⟨fun w wait => ?_, fun w wait => ?_, fun runs => ?_, fun drops => ?_⟩⟩
    · refine faults (extra := []) (by simp) (mapFaultLane_of_draining (s := closing) draining) (by simp [raiseAlert]) ?_
      rw [List.append_nil, raiseAlert, raiseStatus_parts]
      rfl
    · exact ofRaise (by simp) other (faultStep_of_wait (by rw [stage]; exact wait)) rfl rfl
    · exact ofRaise (by simp) other (faultStep_of_end (by rw [stage]; exact wait)) rfl rfl
    · exact ofRaise (by simp) other (faultStep_of_running (by simp only [stage]; exact runs)) rfl alone
    · refine ofRaise (by simp) other ((faultStep_of_dropped (by simp only [stage]; exact drops)).trans ?_) rfl alone
      rw [State.withLane_lane_same, State.withLane_withLane]
  · refine exec_mapFault_of_late_write (fun h => ?_) left
    rcases late with unbound | ⟨closing, faulted⟩
    · exact unbound h.1
    · rcases (mapAccessDue_iff _ _).mp h.2 with ⟨-, open_⟩ | ⟨open_, -⟩
      · exact open_ ⟨closing, faulted⟩
      · exact open_ closing
  · rw [exec_mapFault_of_late_commit unbound other (lateCommitOf_of_append late others), absorbLateFault,
      dropLateCommit_of_append (s := { s with mem := s.mem.afterStores left }) late others, closeAbandoned_eq]

end Sys2Proof.Machine

/-! SUPPORT. Strobe starts and the allocation of a slot (R53, R57, R76, R77), and the statement about them. -/

namespace Sys2Proof.Machine

set_option Elab.async false

/-! ## The slot that a strobe start allocates (R77) -/

section
variable {s : State}

theorem lowerSeq_le (s : State) (a b : Nat) :
    (s.slot (lowerSeq s a b)).seqNat ≤ (s.slot a).seqNat ∧ (s.slot (lowerSeq s a b)).seqNat ≤ (s.slot b).seqNat := by
  unfold lowerSeq
  split <;> omega

theorem foldl_lowerSeq_le (s : State) (i : Nat) (is : List Nat) :
    ∀ j ∈ i :: is, (s.slot (is.foldl (lowerSeq s) i)).seqNat ≤ (s.slot j).seqNat := by
  induction is generalizing i with
  | nil => simp
  | cons a as ih =>
    obtain ⟨first, others⟩ := List.forall_mem_cons.mp (ih (lowerSeq s i a))
    obtain ⟨low, high⟩ := lowerSeq_le s i a
    exact List.forall_mem_cons.mpr ⟨Nat.le_trans first low, List.forall_mem_cons.mpr ⟨Nat.le_trans first high, others⟩⟩

theorem State.slot_eq_getElem {j : Nat} (hj : j < s.slots.length) : s.slot j = s.slots[j] := by
  simp [State.slot, hj]

theorem forall_slots_iff (q : Slot → Prop) : (∀ x ∈ s.slots, q x) ↔ ∀ j < s.slots.length, q (s.slot j) := by
  constructor
  · exact fun all j hj => all _ (List.mem_of_getElem? (State.getElem?_slots hj))
  · intro all x mem
    obtain ⟨j, hj, rfl⟩ := List.getElem_of_mem mem
    rw [← State.slot_eq_getElem hj]
    exact all j hj

theorem firstIndex_slots_eq_none_iff (q : Slot → Bool) : firstIndex q s.slots = none ↔ ∀ j < s.slots.length, q (s.slot j) = false := by
  rw [firstIndex_eq_findIdx?, List.findIdx?_eq_none_iff, forall_slots_iff (fun x => q x = false)]

theorem mem_donePositions_iff {j : Nat} : j ∈ positions (fun x => decide (x.state = .done)) 0 s.slots ↔
    j < s.slots.length ∧ (s.slot j).state = .done := by
  rw [mem_positions_iff]
  constructor
  · rintro ⟨-, x, found, done⟩
    obtain ⟨hj, rfl⟩ := List.getElem?_eq_some_iff.mp (by simpa using found)
    exact ⟨hj, by simpa [State.slot, hj] using done⟩
  · rintro ⟨hj, done⟩
    exact ⟨Nat.zero_le j, s.slot j, State.getElem?_slots hj, decide_eq_true done⟩

theorem allocate_lowest {i : Nat} (h : allocate s = some i) :
    ((s.slot i).state = .free ∧ (∀ j, j < i → (s.slot j).state ≠ .free))
      ∨ (s.slot i).state = .done ∧ (∀ j, j < s.slots.length → (s.slot j).state ≠ .free)
        ∧ ∀ j, j < s.slots.length → (s.slot j).state = .done → (s.slot i).seqNat ≤ (s.slot j).seqNat := by
  unfold allocate at h
  split at h
  · next a first =>
    obtain rfl : a = i := Option.some.inj h
    rw [firstIndex_eq_findIdx?] at first
    obtain ⟨lt, free, before⟩ := List.findIdx?_eq_some_iff_getElem.mp first
    refine .inl ⟨by simpa [State.slot, lt] using free, fun j hj => ?_⟩
    have := before j hj
    simpa [State.slot, Nat.lt_trans hj lt] using this
  · next none =>
    have noFree := (firstIndex_slots_eq_none_iff _).mp none
    split at h
    · cases h
    · next a as found =>
      have mem : i ∈ a :: as := by rw [← Option.some.inj h]; exact foldl_choice_mem (lowerSeq_eq_or s) a as
      refine .inr ⟨(mem_donePositions_iff.mp (found ▸ mem)).2, fun j hj => by simpa using noFree j hj, fun j hj done => ?_⟩
      rw [← Option.some.inj h]
      exact foldl_lowerSeq_le s a as j (found ▸ mem_donePositions_iff.mpr ⟨hj, done⟩)

theorem allocate_eq_none_iff : allocate s = none ↔ ∀ x ∈ s.slots, x.state ≠ .free ∧ x.state ≠ .done := by
  rw [forall_slots_iff (fun x => x.state ≠ .free ∧ x.state ≠ .done)]
  constructor
  · intro h j hj
    unfold allocate at h
    split at h
    · cases h
    · next none =>
      split at h
      · next empty =>
        refine ⟨by simpa using (firstIndex_slots_eq_none_iff _).mp none j hj, fun done => ?_⟩
        have mem := mem_donePositions_iff.mpr ⟨hj, done⟩
        simp [empty] at mem
      · cases h
  · intro closed
    cases h : allocate s with
    | none => rfl
    | some i =>
      obtain ⟨lt, free | done⟩ := allocate_open h
      · exact absurd free (closed i lt).1
      · exact absurd done (closed i lt).2

end

/-! ## A strobe start (R53, R57, R76) -/

theorem updateAt_const {α : Type} (a : α) (i : Nat) (xs : List α) : updateAt (fun _ => a) i xs = xs.set i a := by
  induction xs generalizing i with
  | nil => cases i <;> rfl
  | cons x xs ih => cases i with
    | zero => rfl
    | succ i => exact congrArg (x :: ·) (ih i)

theorem headerBytes_length (r : ExposureRecord) : (headerBytes r).length = 64 := by
  simp [headerBytes]

theorem headerBytes_eq (r : ExposureRecord) : headerBytes r = le 4 r.seq.toNat
    ++ [if r.kind = .survey then 1 else 2, BitVec.ofNat 8 r.lane.val, if r.derate then 1 else 0, r.flagByte]
    ++ leInt 4 r.p ++ le 2 r.tReq ++ le 2 r.tUsed ++ leInt 8 r.pos ++ [BitVec.ofNat 8 r.lReq, BitVec.ofNat 8 r.lUsed] ++ le 2 r.e
    ++ zeros 36 := by
  have kind : BitVec.ofNat 8 r.kind.code = if r.kind = .survey then 1 else 2 := by cases r.kind <;> rfl
  have derate : BitVec.ofNat 8 (if r.derate then 1 else 0) = if r.derate then 1 else 0 := by cases r.derate <;> rfl
  simp only [headerBytes, le_one, kind, derate, List.append_assoc, List.cons_append, List.nil_append]

/-- Settles O40. -/
theorem strobeStarts : Obligations.StrobeStarts := by
  intro kind l lReq tReq s
  refine ⟨fun i alloc => ?_, allocate_eq_none_iff⟩
  intro derate v r place bit header
  have bytes : headerBytes (newRecord s kind l lReq tReq) = header := headerBytes_eq _
  have length : header.length = 64 := by rw [← bytes]; exact headerBytes_length _
  refine ⟨?_, length, rfl, fun a outside => Memory.byteAt_write_of_outside (by rw [length]; exact outside), (allocate_open alloc).1,
    allocate_lowest alloc⟩
  rw [strobeStart_of_allocate alloc]
  simp only [bytes, updateAt_const]
  rfl

end Sys2Proof.Machine

/-! SUPPORT. Head waiters, the survey trigger's evaluation and the supply table (R58 to R65), and the statements about them. -/

namespace Sys2Proof.Machine

set_option Elab.async false

/-! ## The head waiters, in the order they are served (R62) -/

/-- The lane of a head waiter. -/
def Waiter.lane : Waiter → LaneId
  | .survey l => l
  | .expose l => l

/-- The waiter is an EXPOSE. -/
def Waiter.isExpose : Waiter → Bool
  | .survey _ => false
  | .expose _ => true

section
variable {s : State}

theorem exposeWaiting_iff (s : State) (l : LaneId) : exposeWaiting s l = true ↔ ∃ w, (s.lane l).stage = .exposeWait w := by
  unfold exposeWaiting
  split
  · next w h => simp [h]
  · next h => simpa using h

theorem mem_waitersOf_survey (l m : LaneId) : Waiter.survey l ∈ waitersOf s m ↔
    l = m ∧ s.trigger.armed = some l ∧ s.trigger.pending = true := by
  simp only [waitersOf, List.mem_append]
  constructor
  · rintro (mem | mem)
    · split at mem
      · next h => simp at mem; subst mem; exact ⟨rfl, h⟩
      · simp at mem
    · split at mem <;> simp at mem
  · rintro ⟨rfl, armed, pending⟩
    exact .inl (by simp [armed, pending])

theorem mem_waitersOf_expose (l m : LaneId) : Waiter.expose l ∈ waitersOf s m ↔ l = m ∧ exposeWaiting s l = true := by
  simp only [waitersOf, List.mem_append]
  constructor
  · rintro (mem | mem)
    · split at mem <;> simp at mem
    · split at mem
      · next h => simp at mem; subst mem; exact ⟨rfl, h⟩
      · simp at mem
  · rintro ⟨rfl, waits⟩
    exact .inr (by simp [waits])

theorem mem_headWaiters (a : Waiter) : a ∈ headWaiters s ↔ a ∈ waitersOf s a.lane := by
  rw [headWaiters, List.mem_flatMap]
  constructor
  · rintro ⟨m, -, mem⟩
    have lane : a.lane = m := by
      cases a with
      | survey l => exact ((mem_waitersOf_survey l m).mp mem).1
      | expose l => exact ((mem_waitersOf_expose l m).mp mem).1
    rwa [lane]
  · exact fun mem => ⟨a.lane, mem_lanesByClass s _, mem⟩

theorem survey_mem_headWaiters (l : LaneId) : Waiter.survey l ∈ headWaiters s ↔ s.trigger.armed = some l ∧ s.trigger.pending = true := by
  rw [mem_headWaiters, mem_waitersOf_survey]
  simp [Waiter.lane]

theorem expose_mem_headWaiters (l : LaneId) : Waiter.expose l ∈ headWaiters s ↔ ∃ w, (s.lane l).stage = .exposeWait w := by
  rw [mem_headWaiters, mem_waitersOf_expose, exposeWaiting_iff]
  simp [Waiter.lane]

theorem headWaiters_eq_nil_iff : headWaiters s = [] ↔
    (¬ ∃ l, s.trigger.armed = some l ∧ s.trigger.pending = true) ∧ ∀ l w, (s.lane l).stage ≠ .exposeWait w := by
  rw [List.eq_nil_iff_forall_not_mem]
  constructor
  · intro none
    exact ⟨fun ⟨l, h⟩ => none _ ((survey_mem_headWaiters l).mpr h), fun l w h => none _ ((expose_mem_headWaiters l).mpr ⟨w, h⟩)⟩
  · rintro ⟨noTrigger, noExpose⟩ (l | l) mem
    · exact noTrigger ⟨l, (survey_mem_headWaiters l).mp mem⟩
    · obtain ⟨w, h⟩ := (expose_mem_headWaiters l).mp mem
      exact noExpose l w h

theorem lanesByClass_pairwise (s : State) :
    (lanesByClass s).Pairwise fun l m => (s.lane l).cls < (s.lane m).cls ∨ (s.lane l).cls = (s.lane m).cls ∧ l < m := by
  have order : allLanes.Pairwise (· < ·) := by decide
  rw [lanesByClass, List.pairwise_flatMap]
  refine ⟨fun c _ => ?_, order.imp fun {c d} lt l hl m hm => ?_⟩
  · refine (order.filter _).imp_of_mem fun {l m} hl hm lt => ?_
    have first := of_decide_eq_true (List.mem_filter.mp hl).2
    have second := of_decide_eq_true (List.mem_filter.mp hm).2
    exact .inr ⟨first.trans second.symm, lt⟩
  · have first := of_decide_eq_true (List.mem_filter.mp hl).2
    have second := of_decide_eq_true (List.mem_filter.mp hm).2
    exact .inl (by rw [first, second]; exact lt)

/-- Waiter `a` is served before waiter `b` (R62). -/
def ServedBefore (s : State) (a b : Waiter) : Prop :=
  (s.lane a.lane).cls < (s.lane b.lane).cls ∨ (s.lane a.lane).cls = (s.lane b.lane).cls
    ∧ (a.lane < b.lane ∨ a.lane = b.lane ∧ a = .survey a.lane ∧ b = .expose a.lane)

theorem waitersOf_lane {a : Waiter} {l : LaneId} (mem : a ∈ waitersOf s l) : a.lane = l := by
  cases a with
  | survey m => exact ((mem_waitersOf_survey m l).mp mem).1
  | expose m => exact ((mem_waitersOf_expose m l).mp mem).1

theorem headWaiters_pairwise (s : State) : (headWaiters s).Pairwise (ServedBefore s) := by
  rw [headWaiters, List.pairwise_flatMap]
  refine ⟨fun l _ => ?_, (lanesByClass_pairwise s).imp fun {l m} before a ha b hb => ?_⟩
  · unfold waitersOf
    rw [List.pairwise_append]
    refine ⟨by split <;> simp, by split <;> simp, fun a ha b hb => ?_⟩
    split at ha <;> split at hb <;> simp at ha hb
    subst ha hb
    exact .inr ⟨rfl, .inr ⟨rfl, rfl, rfl⟩⟩
  · rw [ServedBefore, waitersOf_lane ha, waitersOf_lane hb]
    exact before.imp_right fun ⟨cls, lt⟩ => ⟨cls, .inl lt⟩

/-- With the trigger's pending flag cleared the waiting EXPOSEs are the waiters left. -/
theorem headWaiters_lowered {t : State} (trigger : t.trigger.pending = false) (cls : ∀ l, (t.lane l).cls = (s.lane l).cls)
    (stage : ∀ l, (t.lane l).stage = (s.lane l).stage) : headWaiters t = (headWaiters s).filter Waiter.isExpose := by
  have lanes : lanesByClass t = lanesByClass s := by simp only [lanesByClass, cls]
  have waits (l : LaneId) : exposeWaiting t l = exposeWaiting s l := by rw [exposeWaiting_eq, exposeWaiting_eq, stage]
  rw [headWaiters, headWaiters, lanes, List.filter_flatMap]
  refine congrArg (List.flatMap · (lanesByClass s)) (funext fun l => ?_)
  simp only [waitersOf, trigger, waits, List.filter_append]
  by_cases h : s.trigger.armed = some l ∧ s.trigger.pending = true <;> by_cases g : exposeWaiting s l = true <;>
    simp [h, g, List.filter_cons, Waiter.isExpose]

theorem headWaiters_rest {l : LaneId} {rest : List Waiter} (first : headWaiters s = .survey l :: rest) :
    (headWaiters s).filter Waiter.isExpose = rest := by
  rw [first]
  simp only [List.filter_cons, Waiter.isExpose]
  refine List.filter_eq_self.mpr fun a mem => ?_
  cases a with
  | expose m => rfl
  | survey m =>
    have order := headWaiters_pairwise s
    rw [first] at order
    have before := List.rel_of_pairwise_cons order mem
    have armed := ((survey_mem_headWaiters l).mp (by rw [first]; simp)).1
    have again := ((survey_mem_headWaiters m).mp (by rw [first]; simp [mem])).1
    obtain rfl : l = m := Option.some.inj (armed.symm.trans again)
    simp [ServedBefore, Waiter.lane] at before

/-! ## Head arbitration (R60, R62) -/

theorem canAllocate_iff (s : State) : canAllocate s = true ↔ ∃ y ∈ s.slots, y.state = .free ∨ y.state = .done := by
  simp [canAllocate]

theorem headFree_iff (s : State) : s.headFree = true ↔ s.exposure.inFlight = none := by
  simp [State.headFree]

theorem headGrantable_iff (s : State) : headGrantable s = true ↔
    s.exposure.inFlight = none ∧ (∃ y ∈ s.slots, y.state = .free ∨ y.state = .done) ∧ s.supply.state ≠ .cutoff := by
  simp [headGrantable, headFree_iff, canAllocate_iff, and_assoc]

theorem headArbitrate_of_grantable (grantable : headGrantable s = true) : headArbitrate s = serveWaiters (headWaiters s) s :=
  if_pos grantable

theorem headArbitrate_of_not_grantable (not : headGrantable s = false) : headArbitrate s = s := if_neg (by simp [not])

theorem headArbitrate_of_no_waiter (none : headWaiters s = []) : headArbitrate s = s := by
  unfold headArbitrate
  rw [none]
  exact ite_self _

theorem fireExpose_of_wait {l : LaneId} {w : StepWord} (stage : (s.lane l).stage = .exposeWait w) :
    fireExpose l s = (strobeStart .patch l (w.operand 17 1) (w.operand 18 2) s).atStage l (.exposeFlight w) := by
  simp only [fireExpose, stage]
  rfl

theorem strobeStart_trigger (kind : FrameKind) (l : LaneId) (lReq tReq : Nat) (s : State) :
    (strobeStart kind l lReq tReq s).trigger = s.trigger := by
  cases h : allocate s with
  | none => rw [strobeStart_of_none h]
  | some i => rw [strobeStart_of_allocate h]

theorem fireSurvey_eq (l : LaneId) (s : State) : fireSurvey l s = { strobeStart .survey l s.trigger.lReq s.trigger.tReq s with
    trigger := { s.trigger with hw := some s.odo.p, pending := false } } := by
  unfold fireSurvey
  simp only [strobeStart_trigger]

theorem withholdHeld_eq (l : LaneId) (s : State) : withholdHeld l s =
    ({ s with trigger := { s.trigger with pending := false } } : State).withLane l { s.lane l with
      counters.withheldHeld := min (2 ^ 32 - 1) ((s.lane l).counters.withheldHeld + 1) } := rfl

theorem withholdSupply_eq (l : LaneId) (s : State) : withholdSupply l s =
    ({ s with trigger := { s.trigger with pending := false } } : State).withLane l { s.lane l with
      counters.withheldSupply := min (2 ^ 32 - 1) ((s.lane l).counters.withheldSupply + 1) } := rfl

theorem triggerDue_iff {l : LaneId} (armed : s.trigger.armed = some l) : triggerDue s = true ↔
    s.trigger.hw = none ∨ ∃ h, s.trigger.hw = some h ∧ h + s.trigger.pitch ≤ s.odo.p := by
  unfold triggerDue
  rw [armed]
  cases hw : s.trigger.hw <;> simp

/-- A waiter that the trigger leaves: the arbitration goes on with the others (R60). -/
theorem serveWaiters_rest {t : State} {l : LaneId} {rest : List Waiter} (first : headWaiters s = .survey l :: rest)
    (grantable : headGrantable s = true) (trigger : t.trigger.pending = false) (lanes : ∀ m, (t.lane m).cls = (s.lane m).cls)
    (stages : ∀ m, (t.lane m).stage = (s.lane m).stage) (exposure : t.exposure = s.exposure) (slots : t.slots = s.slots)
    (supply : t.supply = s.supply) : serveWaiters rest t = headArbitrate t := by
  have still : headGrantable t = true := by
    rw [headGrantable_iff, exposure, slots, supply]
    exact (headGrantable_iff s).mp grantable
  rw [headArbitrate_of_grantable still, headWaiters_lowered trigger lanes stages, headWaiters_rest first]

/-! ## An evaluation of the survey trigger (R59) -/

section
variable {l : LaneId}

theorem evalTrigger_of_not_due (idle : triggerDue s = false) : evalTrigger s = s := by
  unfold evalTrigger
  split
  · rfl
  · exact if_pos (by simp [idle])

theorem evalTrigger_of_held (armed : s.trigger.armed = some l) (due : triggerDue s = true) (held : (s.lane l).state = .held) :
    evalTrigger s = withholdHeld l s := by
  simp [evalTrigger, armed, due, held]

theorem evalTrigger_of_cutoff (armed : s.trigger.armed = some l) (due : triggerDue s = true) (held : (s.lane l).state ≠ .held)
    (cutoff : s.supply.state = .cutoff) : evalTrigger s = withholdSupply l s := by
  simp [evalTrigger, armed, due, held, cutoff]

theorem evalTrigger_of_pending (armed : s.trigger.armed = some l) (due : triggerDue s = true) (held : (s.lane l).state ≠ .held)
    (supply : s.supply.state ≠ .cutoff) (pending : s.trigger.pending = true) :
    evalTrigger s = s.bump l fun c => { c with coalesced := sat32 c.coalesced 1 } := by
  simp [evalTrigger, armed, due, held, supply, pending]

theorem evalTrigger_of_ready (armed : s.trigger.armed = some l) (due : triggerDue s = true) (held : (s.lane l).state ≠ .held)
    (supply : s.supply.state ≠ .cutoff) (pending : s.trigger.pending = false) : evalTrigger s =
      if s.headFree ∧ canAllocate s ∧ headWaiters s = [] then fireSurvey l s
      else headArbitrate { s with trigger.pending := true } := by
  simp [evalTrigger, armed, due, held, supply, pending]

end

end

/-- Settles O41. -/
theorem triggerEvaluated : Obligations.TriggerEvaluated := by
  refine ⟨fun s => ⟨evalTrigger_of_disarmed, fun l armed => ?_⟩, fun s => ?_⟩
  · intro x due waits counted lowered
    have due_iff : triggerDue s = true ↔ due := triggerDue_iff armed
    refine ⟨fun idle => evalTrigger_of_not_due (by simpa using mt due_iff.mp idle),
      fun h held => (evalTrigger_of_held armed (due_iff.mpr h) held).trans (withholdHeld_eq l s),
      fun h held cutoff => (evalTrigger_of_cutoff armed (due_iff.mpr h) held cutoff).trans (withholdSupply_eq l s),
      fun h held supply pending => evalTrigger_of_pending armed (due_iff.mpr h) held supply pending,
      fun h held supply pending => ?_⟩
    have ready := evalTrigger_of_ready armed (due_iff.mpr h) held supply pending
    refine ⟨fun free slot nobody => ?_, fun busy => ?_, fun m w stage => ?_⟩
    · have none : headWaiters s = [] := headWaiters_eq_nil_iff.mpr ⟨by simp [pending], nobody⟩
      rw [ready, if_pos ⟨(headFree_iff s).mpr free, slot, none⟩, fireSurvey_eq]
    · rw [ready, if_neg fun g => busy ⟨(headFree_iff s).mp g.1, g.2.1⟩]
      refine headArbitrate_of_not_grantable (Bool.eq_false_iff.mpr fun g => ?_)
      obtain ⟨free, slot, -⟩ := (headGrantable_iff _).mp g
      exact busy ⟨free, (canAllocate_iff s).mpr slot⟩
    · rw [ready, if_neg fun g => (headWaiters_eq_nil_iff.mp g.2.2).2 m w stage]
  · intro laneOf cls grantable due lowered
    have lane_eq (a : Waiter) : laneOf a = a.lane := by cases a <;> rfl
    have grantable_iff : headGrantable s = true ↔ grantable := headGrantable_iff s
    refine ⟨survey_mem_headWaiters, expose_mem_headWaiters, ?_, fun no => ?_, fun l w rest can first stage => ?_, fun l rest can first => ?_⟩
    · refine (headWaiters_pairwise s).imp fun {a b} h => ?_
      simp only [cls, lane_eq]
      exact h
    · rcases no with no | none
      · exact headArbitrate_of_not_grantable (by simpa using mt grantable_iff.mp no)
      · exact headArbitrate_of_no_waiter none
    · rw [headArbitrate_of_grantable (grantable_iff.mpr can), first, serveWaiters, fireExpose_of_wait stage]
    · have armed := ((survey_mem_headWaiters l).mp (by rw [first]; simp)).1
      have due_iff : triggerDue s = true ↔ due := triggerDue_iff armed
      have serves := headArbitrate_of_grantable (grantable_iff.mpr can)
      rw [first, serveWaiters] at serves
      refine ⟨fun h free => ?_, fun h held => ?_, fun idle => ?_⟩
      · rw [serves, if_neg (by simpa using due_iff.mpr h), if_neg free, fireSurvey_eq]
      · rw [serves, if_neg (by simpa using due_iff.mpr h), if_pos held, withholdHeld_eq]
        refine serveWaiters_rest first (grantable_iff.mpr can) rfl (fun m => ?_) (fun m => ?_) rfl rfl rfl
        · exact State.forall_lane_setLane (s := lowered) (q := fun k y => y.cls = (s.lane k).cls)
            (f := fun y => { y with counters.withheldHeld := min (2 ^ 32 - 1) (y.counters.withheldHeld + 1) }) rfl (fun _ _ => rfl) m
        · exact State.forall_lane_setLane (s := lowered) (q := fun k y => y.stage = (s.lane k).stage)
            (f := fun y => { y with counters.withheldHeld := min (2 ^ 32 - 1) (y.counters.withheldHeld + 1) }) rfl (fun _ _ => rfl) m
      · rw [serves, if_pos (mt due_iff.mp idle)]
        exact serveWaiters_rest first (grantable_iff.mpr can) rfl (fun _ => rfl) (fun _ => rfl) rfl rfl rfl

/-! ## The supply monitor (R64, R65) -/

section
variable {m : Supply} {mv : Nat}

theorem bandOf_eq (m : Supply) (mv : Nat) : bandOf m mv =
    if mv < 16000 + 500 * m.cutoffCode then .b0
    else if mv < 16000 + 500 * m.cutoffCode + 500 then .b1
    else if mv < 18000 + 500 * m.derateCode then .b2
    else if mv < 18000 + 500 * m.derateCode + 500 then .b3
    else .b4 := rfl

theorem oneGood_of_few (few : m.good < 3) (up : SupplyState) : m.oneGood up = { m with good := m.good + 1 } := if_neg (by omega)

theorem oneGood_of_four (three : m.good = 3) (up : SupplyState) : m.oneGood up = { m with state := up, good := 0 } := if_pos (by omega)

end

/-- Settles O42. -/
theorem supplyTable : Obligations.SupplyTable := by
  intro m mv vd vc n goes apart
  have low (h : mv < vc) : bandOf m mv = .b0 := by rw [bandOf_eq, if_pos h]
  have middle (h : vc ≤ mv) (g : mv < vd) : bandOf m mv = .b1 ∨ bandOf m mv = .b2 := by
    rw [bandOf_eq, if_neg (by omega)]
    split
    · exact .inl rfl
    · exact .inr rfl
  have high (h : vd ≤ mv) : bandOf m mv = .b3 ∨ bandOf m mv = .b4 := by
    rw [bandOf_eq, if_neg (by omega), if_neg (by omega), if_neg (by omega)]
    split <;> simp
  have top (h : vd + 500 ≤ mv) : bandOf m mv = .b4 := by
    rw [bandOf_eq, if_neg (by omega), if_neg (by omega), if_neg (by omega), if_neg (by omega)]
  have below (h : mv < vc + 500) : bandOf m mv = .b0 ∨ bandOf m mv = .b1 := by
    rw [bandOf_eq]
    split
    · exact .inl rfl
    · exact .inr rfl
  have above (h : vc + 500 ≤ mv) : bandOf m mv = .b2 ∨ bandOf m mv = .b3 ∨ bandOf m mv = .b4 := by
    rw [bandOf_eq, if_neg (by omega), if_neg (by omega)]
    split
    · simp
    · split <;> simp
  have near (h : vc ≤ mv) (g : mv < vd + 500) : bandOf m mv = .b1 ∨ bandOf m mv = .b2 ∨ bandOf m mv = .b3 := by
    by_cases k : mv < vd
    · exact (middle h k).imp_right .inl
    · exact .inr (.inr (by rw [bandOf_eq, if_neg (by omega), if_neg (by omega), if_neg k, if_pos g]))
  refine ⟨fun state => ⟨fun h => ?_, fun h g => ?_, fun h => ?_⟩, fun state => ⟨fun h => ?_, fun h g => ?_, fun h => ?_⟩,
    fun state => ⟨fun h => ?_, fun h => ?_⟩⟩
  · simp only [goes, n, Supply.sample, state, low h, Supply.settle]
  · rcases middle h g with e | e <;> simp only [goes, n, Supply.sample, state, e, Supply.settle]
  · rcases high h with e | e <;> simp only [goes, n, Supply.sample, state, e, Supply.settle]
  · simp only [goes, n, Supply.sample, state, low h, Supply.settle]
  · rcases near h g with e | e | e <;> simp only [goes, n, Supply.sample, state, e, Supply.settle]
  · have sampled : n = m.oneGood .normal := by simp only [n, Supply.sample, state, top h]
    exact ⟨fun few => (sampled.trans (oneGood_of_few few _)).trans (by rw [← state]), fun three => sampled.trans (oneGood_of_four three _)⟩
  · rcases below h with e | e <;> simp only [goes, n, Supply.sample, state, e, Supply.settle]
  · have sampled : n = m.oneGood .derate := by
      rcases above h with e | e | e <;> simp only [n, Supply.sample, state, e]
    exact ⟨fun few => (sampled.trans (oneGood_of_few few _)).trans (by rw [← state]), fun three => sampled.trans (oneGood_of_four three _)⟩

end Sys2Proof.Machine

/-! SUPPORT. Entering CUTOFF and the supply's samples (R52, R64 to R67), and the statement about them. -/

namespace Sys2Proof.Machine

set_option Elab.async false

/-! ## Entering CUTOFF (R66) -/

/-- A lane whose waiting EXPOSE a CUTOFF entry ends. -/
def Lane.cutoffEnded (x : Lane) : Lane :=
  match x.stage with
  | .exposeWait _ => { x with stage := .doneWrite .advance }
  | _ => x

/-- The done word of a waiting EXPOSE that a CUTOFF entry ends (R63, R66). -/
def Lane.cutoffWord (x : Lane) (l : LaneId) : List DoneWrite :=
  match x.stage with
  | .exposeWait w => [⟨l, x.programAddr, .exception, zeros 8 ++ 1 :: zeros 3, w.noteFlag, .current⟩]
  | _ => []

theorem Lane.cutoffEnded_eq (x : Lane) : ∃ st, x.cutoffEnded = { x with stage := st } := by
  unfold Lane.cutoffEnded
  split
  · exact ⟨_, rfl⟩
  · exact ⟨x.stage, rfl⟩

theorem cutoffExpose_eq (l : LaneId) (s : State) : cutoffExpose l s =
    { s.withLane l (s.lane l).cutoffEnded with doneWrites := s.doneWrites ++ (s.lane l).cutoffWord l } := by
  unfold cutoffExpose
  split
  · next w stage =>
    simp only [Lane.cutoffEnded, Lane.cutoffWord, stage, endStep_eq_ended]
    rfl
  · next other =>
    have ended : (s.lane l).cutoffEnded = s.lane l := by
      unfold Lane.cutoffEnded
      split
      · next w stage => exact (other w stage).elim
      · rfl
    have word : (s.lane l).cutoffWord l = [] := by
      unfold Lane.cutoffWord
      split
      · next w stage => exact (other w stage).elim
      · rfl
    rw [ended, word, List.append_nil, State.withLane_self]

/-- Every waiting EXPOSE ended at a CUTOFF entry. -/
def cutoffExposes (u : State) : State := cutoffExpose 3 (cutoffExpose 2 (cutoffExpose 1 (cutoffExpose 0 u)))

theorem cutoffExpose_lane (l m : LaneId) (s : State) :
    (cutoffExpose l s).lane m = if m = l then (s.lane m).cutoffEnded else s.lane m := by
  rw [cutoffExpose_eq]
  refine (Four.get_set ..).trans ?_
  split
  · next h => rw [h]
  · rfl

theorem cutoffExposes_lane (u : State) (l : LaneId) : (cutoffExposes u).lane l = (u.lane l).cutoffEnded := by
  simp only [cutoffExposes, cutoffExpose_lane]
  match l with
  | 0 | 1 | 2 | 3 => simp

theorem cutoffExposes_doneWrites (u : State) : (cutoffExposes u).doneWrites = u.doneWrites ++ (u.lane 0).cutoffWord 0
    ++ (u.lane 1).cutoffWord 1 ++ (u.lane 2).cutoffWord 2 ++ (u.lane 3).cutoffWord 3 := by
  have words (l : LaneId) (s : State) : (cutoffExpose l s).doneWrites = s.doneWrites ++ (s.lane l).cutoffWord l := by
    rw [cutoffExpose_eq]
  simp [cutoffExposes, words, cutoffExpose_lane]

theorem cutoffExposes_frame (u : State) : (cutoffExposes u).trigger = u.trigger ∧ (cutoffExposes u).map = u.map := by
  simp [cutoffExposes]

/-- A lane for which a CUTOFF entry clears the trigger's pending flag (R66). -/
def Lane.supplyWithheld (x : Lane) : Lane :=
  { x with counters.withheldSupply := min (2 ^ 32 - 1) (x.counters.withheldSupply + 1) }

/-- A surveying lane at a CUTOFF entry (R14, R66). -/
def Lane.cutoffAlerted (x : Lane) : Lane :=
  Lane.raised { x with completion := if x.completion = .none then .cutoff else x.completion } { alert := true } {}

theorem Lane.cutoffAlerted_alert (x : Lane) : x.cutoffAlerted.kinds.alert = true := by
  unfold Lane.cutoffAlerted Lane.raised
  by_cases pending : x.statusPending <;> simp [pending, Kinds.or]

theorem cutoffTrigger_lane (s : State) (l : LaneId) : (cutoffTrigger s).lane l =
    if s.trigger.armed = some l ∧ s.trigger.pending = true then (s.lane l).supplyWithheld else s.lane l := by
  unfold cutoffTrigger
  split
  · next m armed =>
    by_cases pending : s.trigger.pending = true
    · rw [if_pos pending, withholdSupply_eq, armed]
      refine (Four.get_set ..).trans ?_
      by_cases h : l = m
      · simp [h, pending, Lane.supplyWithheld]
      · have ne : some m ≠ some l := fun e => h (Option.some.inj e).symm
        rw [if_neg h, if_neg fun g => ne g.1]
        rfl
    · rw [if_neg pending, if_neg fun g => pending g.2]
  · next armed => rw [if_neg fun g => by simp [armed] at g]

theorem cutoffTrigger_trigger (s : State) : (cutoffTrigger s).trigger =
    if s.trigger.armed.isSome = true ∧ s.trigger.pending = true then { s.trigger with pending := false } else s.trigger := by
  unfold cutoffTrigger
  split
  · next armed => by_cases pending : s.trigger.pending = true <;> simp [pending, armed, withholdSupply_eq, State.withLane]
  · next armed => simp [armed]

theorem cutoffAlert_lane (s : State) (l : LaneId) : (cutoffAlert s).lane l =
    if s.map.lane = some l then (s.lane l).cutoffAlerted else s.lane l := by
  unfold cutoffAlert
  split
  · next m bound =>
    by_cases h : l = m
    · subst h
      rw [bound, if_pos rfl, raiseAlert, raiseStatus_lane_same]
      exact congrArg (Lane.raised · _ _) (Four.get_set_same ..)
    · rw [bound, if_neg fun e => h (Option.some.inj e).symm, raiseAlert, raiseStatus_lane_ne h]
      exact Four.get_set_ne _ _ h
  · next bound => rw [bound, if_neg nofun]

/-- Every lane after a CUTOFF entry (R66). -/
theorem enterCutoff_lane (u : State) (l : LaneId) : (enterCutoff u).lane l =
    let x := (u.lane l).cutoffEnded
    let y := if u.trigger.armed = some l ∧ u.trigger.pending = true then x.supplyWithheld else x
    if u.map.lane = some l then y.cutoffAlerted else y := by
  have trigger := (cutoffExposes_frame u).1
  have map : (cutoffTrigger (cutoffExposes u)).map = u.map := by simp [cutoffExposes_frame]
  rw [show enterCutoff u = cutoffAlert (cutoffTrigger (cutoffExposes u)) from rfl, cutoffAlert_lane, cutoffTrigger_lane, cutoffExposes_lane,
    map, trigger]

theorem enterCutoff_trigger (u : State) : (enterCutoff u).trigger =
    if u.trigger.armed.isSome = true ∧ u.trigger.pending = true then { u.trigger with pending := false } else u.trigger := by
  rw [show enterCutoff u = cutoffAlert (cutoffTrigger (cutoffExposes u)) from rfl, ← (cutoffExposes_frame u).1, ← cutoffTrigger_trigger]
  simp

theorem mem_enterCutoff_doneWrites {u : State} {l : LaneId} {d : DoneWrite} (mem : d ∈ (u.lane l).cutoffWord l) :
    d ∈ (enterCutoff u).doneWrites := by
  have same : (enterCutoff u).doneWrites = (cutoffExposes u).doneWrites := by
    rw [show enterCutoff u = cutoffAlert (cutoffTrigger (cutoffExposes u)) from rfl]
    simp
  rw [same, cutoffExposes_doneWrites]
  match l with
  | 0 | 1 | 2 | 3 => simp [mem]

/-! ## Samples (R64, R66, R67) -/

section
variable {s : State} {mv : Nat}

theorem takeSample_of_stays (stays : (s.supply.sample (bandOf s.supply mv)).state = .cutoff ↔ s.supply.state = .cutoff) :
    takeSample mv s = { s with supply := s.supply.sample (bandOf s.supply mv) } := by
  unfold takeSample
  refine (if_neg fun h => h.2 (stays.mp h.1)).trans (if_neg fun h => h.2 (stays.mpr h.1))

theorem takeSample_of_leaves (before : s.supply.state = .cutoff) (after : (s.supply.sample (bandOf s.supply mv)).state ≠ .cutoff) :
    takeSample mv s = headArbitrate { s with supply := s.supply.sample (bandOf s.supply mv) } := by
  unfold takeSample
  exact (if_neg fun h => after h.1).trans (if_pos ⟨before, after⟩)

theorem takeSample_of_enters (before : s.supply.state ≠ .cutoff) (after : (s.supply.sample (bandOf s.supply mv)).state = .cutoff) :
    takeSample mv s = enterCutoff { s with supply := s.supply.sample (bandOf s.supply mv) } := by
  unfold takeSample
  exact if_pos ⟨after, before⟩

theorem exec_supplyTick_of_sampled (outside : s.supply.state ≠ .normal) : exec (.supplyTick mv) s = .next (takeSample mv s) :=
  if_neg outside

/-- A strobe end goes on with the sample taken (R52, R73, R75). -/
theorem exec_strobeEnd {t : State} (strobe : s.exposure.strobe = true)
    (sampled : takeSample mv { s with exposure := { s.exposure with strobe := false, led := 0 } } = t) :
    (t.intake.damaged = false → exec (.strobeEnd mv) s
        = .next { t with intake := { t.intake with phase := .awaitingStart, timeoutRunning := true } })
      ∧ (t.intake.damaged = true → exec (.strobeEnd mv) s = .next (reportDamage t)) := by
  subst sampled
  have ends : exec (.strobeEnd mv) s = _ := if_pos strobe
  exact ⟨fun sound => ends.trans (if_neg (by simp [sound])), fun damaged => ends.trans (if_pos damaged)⟩

end

/-- Settles O43. -/
theorem supplySamples : Obligations.SupplySamples := by
  refine ⟨fun s mv => ?_, fun u => ?_⟩
  · intro m u v ready stays
    refine ⟨fun normal => if_pos normal, fun outside same => ?_, fun before after => ?_, fun before after => ?_, fun strobe same => ?_,
      fun strobe before after => ?_, fun strobe before after => ?_⟩
    · rw [exec_supplyTick_of_sampled outside, takeSample_of_stays same]
    · rw [exec_supplyTick_of_sampled (by simp [before]), takeSample_of_leaves before after]
    · rw [exec_supplyTick_of_sampled (by simp [before]), takeSample_of_enters (by simp [before]) after]
    · exact exec_strobeEnd strobe (takeSample_of_stays (s := { s with exposure := { s.exposure with strobe := false, led := 0 } }) same)
    · have enters := exec_strobeEnd strobe
        (takeSample_of_enters (s := { s with exposure := { s.exposure with strobe := false, led := 0 } }) before after)
      have intake : (enterCutoff v).intake = s.intake := by simp [v, u]
      rw [intake] at enters
      exact enters
    · intro t
      obtain ⟨sound, damaged⟩ := exec_strobeEnd strobe
        (takeSample_of_leaves (s := { s with exposure := { s.exposure with strobe := false, led := 0 } }) before after)
      refine ⟨sound, damaged, fun flight => headArbitrate_of_not_grantable (Bool.eq_false_iff.mpr fun g => ?_)⟩
      have free : s.exposure.inFlight = none := ((headGrantable_iff v).mp g).1
      simp [free] at flight
  · intro t
    have lane (l : LaneId) := enterCutoff_lane u l
    refine ⟨fun l w stage => ?_, fun l armed pending => ?_, fun pending => ?_, fun l bound => ?_, fun l unbound => ?_, by simp [t], by simp [t],
      by simp [t], by simp [t], by simp [t]⟩
    · have ended : (u.lane l).cutoffEnded = { u.lane l with stage := .doneWrite .advance } := by simp only [Lane.cutoffEnded, stage]
      refine ⟨?_, mem_enterCutoff_doneWrites (l := l) (by simp [Lane.cutoffWord, stage])⟩
      rw [lane, ended]
      dsimp only
      split <;> split <;> rfl
    · obtain ⟨st, ended⟩ := (u.lane l).cutoffEnded_eq
      refine ⟨(enterCutoff_trigger u).trans (if_pos ⟨by simp [armed], pending⟩), ?_⟩
      rw [lane, ended]
      simp only [if_pos (show u.trigger.armed = some l ∧ u.trigger.pending = true from ⟨armed, pending⟩)]
      split <;> rfl
    · exact (enterCutoff_trigger u).trans (if_neg (by simp [pending]))
    · obtain ⟨st, ended⟩ := (u.lane l).cutoffEnded_eq
      rw [lane, ended, if_pos bound]
      refine ⟨rfl, Lane.cutoffAlerted_alert _, ?_⟩
      split <;> rfl
    · obtain ⟨st, ended⟩ := (u.lane l).cutoffEnded_eq
      rw [lane, ended, if_neg unbound]
      constructor <;> split <;> rfl

end Sys2Proof.Machine

/-! SUPPORT. The head link, frames and damage (R68 to R75, R79), and the statements about them. -/

namespace Sys2Proof.Machine

set_option Elab.async false

/-! ## Bytes and whole tokens (R68, R69) -/

section
variable {s : State} {outstanding : Bool}

/-- The receiver's framing, everything else as it was. -/
def State.framed (s : State) (f : Framing) : State := { s with intake := { s.intake with framing := f } }

theorem State.framed_self {f : Framing} (h : s.intake.framing = f) : s.framed f = s := by rw [← h]; rfl

theorem takeHeadBytes_of_frameBytes {f : Framing} {bytes : List Byte} {q : Framing × List HeadToken} (framing : s.intake.framing = f)
    (taken : frameBytes (lineTokenLength s.intake.ws) f bytes = q) :
    takeHeadBytes outstanding bytes s = q.2.foldl (takeToken outstanding) (s.framed q.1) := by
  simp only [takeHeadBytes, framing, taken]
  rfl

theorem takeHeadBytes_single {f : Framing} {b : Byte} {q : Framing × List HeadToken} (framing : s.intake.framing = f)
    (taken : frameByte (lineTokenLength s.intake.ws) f b = q) :
    takeHeadBytes outstanding [b] s = q.2.foldl (takeToken outstanding) (s.framed q.1) :=
  takeHeadBytes_of_frameBytes framing (by simp [frameBytes, taken])

/-- Inside a line token a byte belongs to that token. -/
theorem takeHeadBytes_inside {n : Nat} {taken : List Byte} (framing : s.intake.framing = ⟨n, taken⟩) (inside : 1 < n) (b : Byte) :
    takeHeadBytes outstanding [b] s = s.framed ⟨n - 1, b :: taken⟩ := by
  obtain ⟨m, rfl⟩ : ∃ m, n = m + 2 := ⟨n - 2, by omega⟩
  rw [takeHeadBytes_single framing rfl]
  rfl

/-- At the start of a token a byte that is a token of its own is taken as that. -/
theorem takeHeadBytes_token (start : s.intake.framing = ⟨0, []⟩) {b : Byte} {t : HeadToken}
    (token : frameTypeByte (lineTokenLength s.intake.ws) b = (.start, [t])) :
    takeHeadBytes outstanding [b] s = takeToken outstanding s t := by
  rw [takeHeadBytes_single start token]
  exact congrArg (takeToken outstanding · t) (State.framed_self start)

theorem frameTypeByte_unknown {b : Byte} (start : b ≠ 0xF0) (line : b ≠ 0xF1) (finish : b ≠ 0xF2) (len : Nat) :
    frameTypeByte len b = (.start, [.unknown b]) := by
  rw [frameTypeByte, if_neg start, if_neg line, if_neg finish]

/-- The bytes that a line token lacks complete it. -/
theorem takeHeadBytes_complete {n : Nat} {taken : List Byte} (framing : s.intake.framing = ⟨n, taken⟩) {bytes : List Byte}
    (whole : bytes.length = n) (some_ : 0 < n) :
    takeHeadBytes outstanding bytes s = takeLineToken (taken.reverse ++ bytes) (s.framed ⟨0, []⟩) := by
  rw [takeHeadBytes_of_frameBytes framing (frameBytes_complete _ bytes taken n whole some_)]
  rfl

/-- A whole line token is taken. -/
theorem takeHeadBytes_line (start : s.intake.framing = ⟨0, []⟩) {bytes : List Byte}
    (whole : bytes.length = lineTokenLength s.intake.ws) :
    takeHeadBytes outstanding (0xF1 :: bytes) s = takeLineToken bytes s := by
  have len : 0 < lineTokenLength s.intake.ws := by unfold lineTokenLength; omega
  rw [takeHeadBytes_of_frameBytes start (frameBytes_line _ bytes whole len)]
  exact congrArg (takeLineToken bytes) (State.framed_self start)

/-- A line token short of its end is under way. -/
theorem takeHeadBytes_lineBegun {taken : List Byte} (start : s.intake.framing = ⟨0, taken⟩) {bytes : List Byte}
    (short : bytes.length < lineTokenLength s.intake.ws) :
    takeHeadBytes outstanding (0xF1 :: bytes) s = s.framed ⟨lineTokenLength s.intake.ws - bytes.length, bytes.reverse⟩ := by
  have begun : frameBytes (lineTokenLength s.intake.ws) ⟨0, taken⟩ (0xF1 :: bytes)
      = (⟨lineTokenLength s.intake.ws - bytes.length, bytes.reverse⟩, []) := by
    rw [frameBytes, show frameByte (lineTokenLength s.intake.ws) ⟨0, taken⟩ 0xF1 = (⟨lineTokenLength s.intake.ws, []⟩, []) from rfl,
      frameBytes_inside _ bytes [] _ short]
    simp
  rw [takeHeadBytes_of_frameBytes start begun]
  rfl

end

/-! ## Tokens in each phase of the receiver (R69 to R72) -/

section
variable {s : State}

theorem takeLineToken_stray (outside : s.intake.phase ≠ .receiving) (bytes : List Byte) : takeLineToken bytes s = countStray s := by
  unfold takeLineToken
  split
  case h_1 receiving => exact absurd receiving outside
  all_goals rfl

theorem takeFrameEnd_stray (outside : s.intake.phase ≠ .receiving) (outstanding : Bool) :
    takeFrameEnd outstanding s = countStray s := by
  unfold takeFrameEnd
  split
  case h_1 receiving => exact absurd receiving outside
  all_goals rfl

theorem takeFrameStart_stray (rest : s.intake.phase = .idle ∨ s.intake.phase = .integrating) : takeFrameStart s = countStray s := by
  rcases rest with phase | phase <;> simp only [takeFrameStart, phase]

theorem takeFrameStart_awaited (phase : s.intake.phase = .awaitingStart) : takeFrameStart s = { s with intake := { s.intake with
    phase := .receiving, expected := 0, repaired := 0, lineBuffer := List.replicate s.intake.ws 0 } } := by
  simp only [takeFrameStart, phase]

theorem takeFrameStart_second (phase : s.intake.phase = .receiving) : takeFrameStart s = reportDamage s := by
  simp only [takeFrameStart, phase]

theorem takeLineToken_receiving (phase : s.intake.phase = .receiving) (bytes : List Byte) :
    takeLineToken bytes s = receiveLine (LineToken.ofBytes bytes) s := by
  simp only [takeLineToken, phase]

/-! ## Lines written and repaired (R70, R71) -/

/-- `k` lines of slot `i`, from line `e` on, written from the line buffer. -/
def Memory.repaired (m : Memory) (n : Intake) (i e k : Nat) : Memory :=
  (List.range k).foldl (fun m j => m.write (lineAddr n i (e + j)) (lineBytes n.lineBuffer)) m

theorem Memory.repaired_succ (m : Memory) (n : Intake) (i e k : Nat) :
    m.repaired n i e (k + 1) = (m.write (lineAddr n i e) (lineBytes n.lineBuffer)).repaired n i (e + 1) k := by
  simp only [Memory.repaired, List.range_succ_eq_map, List.foldl_cons, List.foldl_map, Nat.add_zero, Nat.succ_eq_add_one,
    Nat.add_comm 1, Nat.add_assoc]

theorem writeLine_of_inFlight {i : Nat} (inFlight : s.exposure.inFlight = some i) (y : Nat) (pixels : List Nat) :
    writeLine y pixels s = s.store (lineAddr s.intake i y) (lineBytes pixels) := by
  simp only [writeLine, inFlight]

theorem repairLines_of_inFlight {i : Nat} (inFlight : s.exposure.inFlight = some i) (k : Nat) :
    repairLines k s = { s with
      mem := s.mem.repaired s.intake i s.intake.expected k
      intake := { s.intake with expected := s.intake.expected + k, repaired := s.intake.repaired + k } } := by
  induction k generalizing s with
  | zero => rfl
  | succ k ih =>
    rw [repairLines, writeLine_of_inFlight inFlight]
    refine (ih ?same).trans ?_
    case same => exact inFlight
    rw [Memory.repaired_succ, ← Nat.add_assoc, ← Nat.add_assoc, Nat.add_right_comm _ k, Nat.add_right_comm _ k]
    rfl

theorem receiveLine_good {i : Nat} (inFlight : s.exposure.inFlight = some i) {t : LineToken} (passes : t.passes = true)
    (forward : s.intake.expected ≤ t.number) (within : t.number < s.intake.hs) : receiveLine t s = { s with
      mem := (s.mem.repaired s.intake i s.intake.expected (t.number - s.intake.expected)).write (lineAddr s.intake i t.number)
        (lineBytes t.pixels)
      intake := { s.intake with expected := t.number + 1
                                repaired := s.intake.repaired + (t.number - s.intake.expected)
                                lineBuffer := t.pixels } } := by
  have kept : ¬ (t.number < s.intake.expected ∨ s.intake.hs ≤ t.number) := by omega
  have reached : s.intake.expected + (t.number - s.intake.expected) = t.number := by omega
  simp only [receiveLine, passes, if_true, kept, if_false, repairLines_of_inFlight inFlight, reached, takeLine]
  rw [writeLine_of_inFlight (i := i) (by exact inFlight)]
  rfl

theorem receiveLine_misplaced {t : LineToken} (passes : t.passes = true)
    (misplaced : t.number < s.intake.expected ∨ s.intake.hs ≤ t.number) : receiveLine t s = reportDamage s := by
  simp only [receiveLine, passes, if_true, if_pos misplaced]

theorem receiveLine_failed {t : LineToken} (fails : t.passes = false) (within : s.intake.expected < s.intake.hs) :
    receiveLine t s = repairLines 1 s := by
  simp only [receiveLine, fails, Bool.false_eq_true, if_false, if_pos within]

theorem receiveLine_failed_past {t : LineToken} (fails : t.passes = false) (past : s.intake.hs ≤ s.intake.expected) :
    receiveLine t s = reportDamage s := by
  simp only [receiveLine, fails, Bool.false_eq_true, if_false, if_neg (Nat.not_lt.2 past)]

end

/-- Settles O44. -/
theorem headTokensTaken : Obligations.HeadTokensTaken := by
  refine ⟨fun _ _ _ => rfl, fun _ => rfl, fun s n taken framing => ⟨?_, ?_, ?_⟩, ?_⟩
  · rintro rfl
    exact ⟨congrArg Host.Outcome.next (takeHeadBytes_lineBegun framing (bytes := []) (by simp [lineTokenLength])),
      fun bytes short => congrArg Host.Outcome.next (takeHeadBytes_lineBegun framing short)⟩
  · intro inside
    exact ⟨congrArg Host.Outcome.next (takeHeadBytes_inside framing inside 0xF0),
      fun outstanding => congrArg Host.Outcome.next (takeHeadBytes_inside framing inside 0xF2),
      fun b => congrArg Host.Outcome.next (takeHeadBytes_inside framing inside b)⟩
  · rintro rfl whole b
    have atStart : (s.framed ⟨0, []⟩).intake.framing = ⟨0, []⟩ := rfl
    have sameLength : (taken.reverse ++ [b]).length = lineTokenLength (s.framed ⟨0, []⟩).intake.ws := by
      simpa [lineTokenLength, State.framed] using whole
    exact congrArg Host.Outcome.next ((takeHeadBytes_complete framing (bytes := [b]) rfl Nat.one_pos).trans
      (takeHeadBytes_line atStart sameLength).symm)
  · intro s bytes whole start stray tok e repaired
    have line : exec (.headLine bytes) s = .next (takeLineToken bytes s) :=
      congrArg Host.Outcome.next (takeHeadBytes_line start whole)
    have frameStart : exec .headFrameStart s = .next (takeFrameStart s) :=
      congrArg Host.Outcome.next (takeHeadBytes_token start (t := .frameStart) rfl)
    have frameEnd (outstanding : Bool) : exec (.headFrameEnd outstanding) s = .next (takeFrameEnd outstanding s) :=
      congrArg Host.Outcome.next (takeHeadBytes_token start (t := .frameEnd) rfl)
    rw [line, frameStart]
    refine ⟨fun outside => ⟨?_, fun outstanding => ?_⟩, fun rest => ?_, fun b h0 h1 h2 => ?_, fun phase => ?_, fun phase => ?_,
      fun i phase inFlight passes forward within => ?_, fun phase passes misplaced => ?_,
      fun i phase inFlight fails within => ?_, fun phase fails past => ?_⟩
    · exact congrArg Host.Outcome.next (takeLineToken_stray outside bytes)
    · rw [frameEnd, takeFrameEnd_stray outside]
      rfl
    · exact congrArg Host.Outcome.next (takeFrameStart_stray rest)
    · exact congrArg Host.Outcome.next (takeHeadBytes_token start (frameTypeByte_unknown h0 h1 h2 _))
    · rw [takeFrameStart_awaited phase]
    · rw [takeFrameStart_second phase]
    · rw [takeLineToken_receiving phase, receiveLine_good inFlight passes forward within]
      rfl
    · rw [takeLineToken_receiving phase, receiveLine_misplaced passes misplaced]
    · rw [takeLineToken_receiving phase, receiveLine_failed fails within, repairLines_of_inFlight inFlight]
      rfl
    · rw [takeLineToken_receiving phase, receiveLine_failed_past fails past]

/-! ## The end of a frame (R71, R74, R79) -/

section
variable {s : State} {i : Nat} {r : ExposureRecord}

theorem takeFrameEnd_receiving (phase : s.intake.phase = .receiving) (open_ : s.intake.completion = .none)
    (inFlight : s.exposure.inFlight = some i) (outstanding : Bool) :
    let k := s.intake.hs - s.intake.expected
    let v : State := { s with
      mem := s.mem.repaired s.intake i s.intake.expected k
      intake := { s.intake with expected := s.intake.expected + k, repaired := s.intake.repaired + k } }
    takeFrameEnd outstanding s = if s.intake.repairLimit < s.intake.repaired + k then reportDamage v
      else { v with intake := { v.intake with
        timeoutRunning := false, completion := if outstanding then .lineWrites else .headerWrite } } := by
  simp only [takeFrameEnd, phase, open_, ne_eq, not_true_eq_false, if_false, repairLines_of_inFlight inFlight]

theorem updateAt_eq_set {α : Type} (f : α → α) {i : Nat} {xs : List α} (here : i < xs.length) :
    updateAt f i xs = xs.set i (f xs[i]) := by
  induction xs generalizing i with
  | nil => cases here
  | cons x xs ih => cases i with
    | zero => rfl
    | succ i => exact congrArg (x :: ·) (ih (Nat.lt_of_succ_lt_succ here))

/-- A slot of the table is set to what it becomes. -/
theorem State.setSlot_eq_set (here : i < s.slots.length) (f : Slot → Slot) :
    s.setSlot i f = { s with slots := s.slots.set i (f (s.slot i)) } := by
  rw [State.setSlot, updateAt_eq_set f here, State.slot_eq_getElem here]

/-- The exposure of slot `i` is over, its slot become `y`, its header's bytes as `m` holds them (R74, R75). -/
def State.frameOver (s : State) (m : Memory) (i : Nat) (y : Slot) : State := { s with
  mem := m
  intake := { s.intake with phase := .idle, timeoutRunning := false, damaged := false, completion := .none }
  exposure := { s.exposure with inFlight := none }
  slots := s.slots.set i y }

theorem setSlot_exposureOver_store (here : i < s.slots.length) (a : Word) (bs : List Byte) (f : Slot → Slot) :
    (exposureOver (s.store a bs)).setSlot i f = s.frameOver (s.mem.write a bs) i (f (s.slot i)) :=
  State.setSlot_eq_set (s := exposureOver (s.store a bs)) here f

theorem exposureOver_setSlot_eq (here : i < s.slots.length) (f : Slot → Slot) :
    exposureOver (s.setSlot i f) = s.frameOver s.mem i (f (s.slot i)) := by
  rw [State.setSlot_eq_set here]
  rfl

theorem exposeResults_done (seq : Word) (repaired : Nat) (flags : Byte) (slot : Nat) :
    exposeResults seq repaired flags slot 0 = le 4 seq.toNat ++ le 2 repaired ++ [flags] ++ le 1 slot ++ zeros 4 := by
  simp only [exposeResults, List.append_assoc]
  rfl

theorem exposeResults_damaged (seq : Word) (flags : Byte) :
    exposeResults seq 0 flags 0 2 = le 4 seq.toNat ++ zeros 2 ++ [flags] ++ 0 :: 2 :: zeros 3 := by
  simp only [exposeResults, List.append_assoc]
  rfl

/-- The report of a frame's end, by what its slot's record tells of it. -/
theorem exec_frameComplete (due : s.intake.completion = .headerWrite) (inFlight : s.exposure.inFlight = some i)
    (record : (s.slot i).record = some r) : exec .frameComplete s = .next (headArbitrate (leaveFilling i r s.intake.repaired
      (s.slot i).orphan (exposureOver (s.store (slotAddr s.intake i + 28) (le 2 s.intake.repaired ++ [1]))))) := by
  rw [show exec .frameComplete s = execFrameComplete s from rfl]
  simp only [execFrameComplete, due, inFlight, reportFrameEnd, record]

/-- The report of damage, by the record of the slot in flight. -/
theorem reportDamage_of_inFlight (inFlight : s.exposure.inFlight = some i) (record : (s.slot i).record = some r)
    (here : i < s.slots.length) :
    reportDamage s = headArbitrate (damageFor r (s.slot i).orphan (s.frameOver s.mem i Slot.empty)) := by
  simp only [reportDamage, inFlight, record, exposureOver_setSlot_eq here]

end

/-- Settles O46. -/
theorem frameEnds : Obligations.FrameEnds := by
  refine ⟨?_, fun s due => if_pos due, ?_⟩
  · intro s i outstanding phase open_ start inFlight e k v
    have taken : exec (.headFrameEnd outstanding) s = .next (takeFrameEnd outstanding s) :=
      congrArg Host.Outcome.next (takeHeadBytes_token start (t := .frameEnd) rfl)
    rw [taken, takeFrameEnd_receiving phase open_ inFlight]
    exact ⟨fun above => congrArg Host.Outcome.next (if_pos above),
      fun within => congrArg Host.Outcome.next (if_neg (Nat.not_lt.2 within))⟩
  · intro s i r due inFlight record here x v now
    have ends := exec_frameComplete due inFlight record
    refine ⟨fun kind orphan => ?_, fun kind orphan => ?_, fun kind orphan => ?_, fun w kind orphan stage => ?_⟩
    · rw [show (s.slot i).orphan = false from orphan] at ends
      refine ends.trans (congrArg (Host.Outcome.next ∘ headArbitrate) ?_)
      simp only [leaveFilling, kind, setSlot_exposureOver_store here]
      rfl
    · rw [show (s.slot i).orphan = true from orphan] at ends
      refine ends.trans (congrArg (Host.Outcome.next ∘ headArbitrate) ?_)
      simp only [leaveFilling, kind, setSlot_exposureOver_store here]
      rfl
    · rw [show (s.slot i).orphan = true from orphan] at ends
      refine ends.trans (congrArg (Host.Outcome.next ∘ headArbitrate) ?_)
      simp only [leaveFilling, kind, setSlot_exposureOver_store here]
      rfl
    · rw [show (s.slot i).orphan = false from orphan] at ends
      refine ends.trans (congrArg (Host.Outcome.next ∘ headArbitrate) ?_)
      have flight : ((exposureOver (s.store (slotAddr s.intake i + 28) (le 2 s.intake.repaired ++ [1]))).lane r.lane).stage
          = .exposeFlight w := stage
      simp only [leaveFilling, kind, flight, setSlot_exposureOver_store here, endStep_eq_ended, exposeResults_done]
      rfl

/-- Settles O47. -/
theorem damageReported : Obligations.DamageReported := by
  refine ⟨?_, fun s due => if_pos due, ?_⟩
  · intro s i r inFlight record here x v
    have reported := reportDamage_of_inFlight inFlight record here
    refine ⟨fun orphan => ?_, fun orphan kind => ?_, fun w orphan kind stage => ?_⟩
    all_goals rw [reported, orphan]
    · rfl
    · simp only [damageFor, kind, Bool.false_eq_true, if_false]
      rfl
    · have flight : ((s.frameOver s.mem i Slot.empty).lane r.lane).stage = .exposeFlight w := stage
      simp only [damageFor, kind, Bool.false_eq_true, if_false, flight, endStep_eq_ended, exposeResults_damaged]
      rfl
  intro s left v
  rw [show exec (.slotWriteFault left) s = execSlotWriteFault left s from rfl]
  refine ⟨fun phase => ?_, fun phase => ?_, fun phase => ?_⟩
  · simp only [execSlotWriteFault, show (s.withStores left).intake.phase = .idle from phase]
    rfl
  · simp only [execSlotWriteFault, show (s.withStores left).intake.phase = .integrating from phase]
    rw [← phase]
    rfl
  · rcases phase with phase | phase
    · simp only [execSlotWriteFault, show (s.withStores left).intake.phase = .awaitingStart from phase]
      rfl
    · simp only [execSlotWriteFault, show (s.withStores left).intake.phase = .receiving from phase]
      rfl

end Sys2Proof.Machine

/-! SUPPORT. The CRC and the read-back of line tokens (R68, R70), and the statement about them. -/

namespace Sys2Proof.Machine

set_option Elab.async false

/-! ## The CRC bit by bit (R70) -/

section

/-- One bit taken by the register of R70: the bit that leaves it, added to the bit that arrives, is fed back. -/
def crcShift (c : BitVec 16) (bit : Bool) : BitVec 16 := if c.getLsbD 15 != bit then (c <<< 1) ^^^ 0x1021#16 else c <<< 1

/-- A byte's bits, the most significant first. -/
def bitsOf (b : Byte) : List Bool := [7, 6, 5, 4, 3, 2, 1, 0].map fun i => b.getLsbD i

/-- Bits waiting in the register move up, the foremost of them arriving. -/
theorem crcBit_xor (c waiting : BitVec 16) : crcBit (c ^^^ waiting) = crcShift c (waiting.getLsbD 15) ^^^ waiting <<< 1 := by
  simp only [crcBit, crcShift, BitVec.getLsbD_xor, BitVec.shiftLeft_xor_distrib]
  cases hc : c.getLsbD 15 <;> cases hw : waiting.getLsbD 15 <;> simp <;> ac_rfl

theorem getLsbD_byte_shiftLeft (b : Byte) {k : Nat} (h : k < 8) : ((b.setWidth 16 <<< (8 + k)).getLsbD 15) = b.getLsbD (7 - k) := by
  simp only [BitVec.getLsbD_shiftLeft, BitVec.getLsbD_setWidth]
  have below : ¬ 15 < 8 + k := by omega
  have place : 15 - (8 + k) = 7 - k := by omega
  simp [below, place]
  omega

/-- The register moved on by `k` bits. -/
def crcBits : Nat → BitVec 16 → BitVec 16
  | 0, c => c
  | k + 1, c => crcBit (crcBits k c)

theorem take_bitsOf_succ (b : Byte) : ∀ k < 8, (bitsOf b).take (k + 1) = (bitsOf b).take k ++ [b.getLsbD (7 - k)]
  | 0, _ | 1, _ | 2, _ | 3, _ | 4, _ | 5, _ | 6, _ | 7, _ => rfl

/-- The register after `k` bits of a byte: the bits still waiting stand at its top. -/
theorem crcBits_eq (c : BitVec 16) (b : Byte) {k : Nat} (h : k ≤ 8) : crcBits k (c ^^^ (b.setWidth 16 <<< 8))
    = ((bitsOf b).take k).foldl crcShift c ^^^ (b.setWidth 16 <<< (8 + k)) := by
  induction k with
  | zero => rfl
  | succ k ih =>
    rw [crcBits, ih (by omega), crcBit_xor, getLsbD_byte_shiftLeft b (by omega), take_bitsOf_succ b k h, List.foldl_append,
      ← BitVec.shiftLeft_add]
    rfl

theorem crcByte_eq (c : BitVec 16) (b : Byte) : crcByte c b = (bitsOf b).foldl crcShift c := by
  have whole := crcBits_eq c b (k := 8) (Nat.le_refl 8)
  have gone : (b.setWidth 16 <<< (8 + 8) : BitVec 16) = 0#16 := BitVec.shiftLeft_eq_zero (by omega)
  rw [gone, BitVec.xor_zero] at whole
  exact whole

theorem crc16_eq (bs : List Byte) : crc16 bs = (bs.flatMap bitsOf).foldl crcShift 0xFFFF#16 := by
  rw [List.foldl_flatMap]
  exact congrArg (fun f => bs.foldl f 0xFFFF#16) (funext fun c => funext fun b => crcByte_eq c b)

end

/-! ## Line tokens read back (R68) -/

section

/-- A line token's number, pixels and CRC, in front of its last two bytes. -/
theorem LineToken.ofBytes_append (body : List Byte) (high low : Byte) : LineToken.ofBytes (body ++ [high, low]) =
    ⟨256 * ((body ++ [high, low]).getD 0 0).toNat + ((body ++ [high, low]).getD 1 0).toNat, unpackPixels (body.drop 2),
      decide ((crc16 body).toNat = 256 * high.toNat + low.toNat)⟩ := by
  simp [LineToken.ofBytes]

theorem unpackPixels_packPixels (pixels : List Nat) (even : pixels.length % 2 = 0) (range : ∀ p ∈ pixels, p < 4096) :
    unpackPixels (packPixels pixels) = pixels := by
  induction pixels using packPixels.induct with
  | case1 p q rest ih =>
    have hp := range p (by simp)
    have hq := range q (by simp)
    have left : unpackPixels (packPixels rest) = rest :=
      ih (by simp only [List.length_cons] at even; omega) fun x hx => range x (by simp [hx])
    simp only [packPixels, unpackPixels, left, BitVec.toNat_ofNat]
    congr 1
    · omega
    · congr 1
      omega
  | case2 pixels short =>
    match pixels, short, even with
    | [], _, _ => rfl
    | [_], _, odd => simp at odd
    | p :: q :: rest, short, _ => exact absurd rfl (short p q rest)

theorem packPixels_length (pixels : List Nat) (even : pixels.length % 2 = 0) :
    (packPixels pixels).length = 3 * pixels.length / 2 := by
  induction pixels using packPixels.induct with
  | case1 p q rest ih =>
    have left := ih (by simp only [List.length_cons] at even; omega)
    simp only [packPixels, List.length_cons, left]
    omega
  | case2 pixels short =>
    match pixels, short, even with
    | [], _, _ => rfl
    | [_], _, odd => simp at odd
    | p :: q :: rest, short, _ => exact absurd rfl (short p q rest)

theorem ofNat_div_mod_toNat {n : Nat} (h : n < 65536) :
    256 * (BitVec.ofNat 8 (n / 256)).toNat + (BitVec.ofNat 8 n).toNat = n := by
  simp only [BitVec.toNat_ofNat]
  omega

end

/-- Settles O45. -/
theorem lineTokenRead : Obligations.LineTokenRead := by
  refine ⟨crc16_eq, fun bs high low => ?_, fun n pixels line even range => ⟨?_, ?_⟩⟩
  · rw [LineToken.ofBytes_append, decide_eq_true_iff]
  · have crc : 256 * (BitVec.ofNat 8 ((crc16 (BitVec.ofNat 8 (n / 256) :: BitVec.ofNat 8 n :: packPixels pixels)).toNat / 256)).toNat
        + (BitVec.ofNat 8 (crc16 (BitVec.ofNat 8 (n / 256) :: BitVec.ofNat 8 n :: packPixels pixels)).toNat).toNat
        = (crc16 (BitVec.ofNat 8 (n / 256) :: BitVec.ofNat 8 n :: packPixels pixels)).toNat :=
      ofNat_div_mod_toNat (BitVec.isLt _)
    rw [goodLine, LineToken.ofBytes_append, crc, decide_eq_true rfl]
    simp only [List.cons_append, List.getD_cons_zero, List.getD_cons_succ, ofNat_div_mod_toNat line, List.drop_succ_cons,
      List.drop_zero, unpackPixels_packPixels pixels even range]
  · simp only [goodLine, List.length_append, List.length_cons, List.length_nil, packPixels_length pixels even, lineTokenLength]

end Sys2Proof.Machine

/-! SUPPORT. Accepted edges, counts and the decoders (R38 to R45), and the statement about them. -/

namespace Sys2Proof.Machine

set_option Elab.async false

/-! ## Levels accepted (R38, R39) -/

section

theorem PinLevels.level_withLevel_same (q : PinLevels) (i : Input) (v : Bool) : (q.withLevel i v).level i = v := by cases i <;> rfl

theorem PinLevels.level_withLevel_of_ne (q : PinLevels) {i j : Input} (h : j ≠ i) (v : Bool) :
    (q.withLevel i v).level j = q.level j := by
  cases i <;> cases j <;> simp_all [PinLevels.withLevel, PinLevels.level]

/-- The inputs that an edge accepts. -/
def edgeAccepts (e : Edge) (i : Input) : Prop := e = .single i ∨ ∃ w, e = .both w ∧ i.wheel = some w

theorem accepts_single_iff {i j : Input} : edgeAccepts (.single i) j ↔ j = i := by
  simp [edgeAccepts, eq_comm]

theorem accepts_both_iff {w : Wheel} {j : Input} : edgeAccepts (.both w) j ↔ j = w.inputA ∨ j = w.inputB := by
  cases w <;> cases j <;> simp [edgeAccepts, Input.wheel, Wheel.inputA, Wheel.inputB]

theorem inputA_ne_inputB (w : Wheel) : w.inputA ≠ w.inputB := by cases w <;> decide

theorem edgeDue_of_accepts {e : Edge} {o : Odometer} (runs : ∀ i, edgeAccepts e i → o.pins.level i ≠ o.accepted.level i) :
    edgeDue o e = true := by
  cases e with
  | single i => exact (edgeDue_single o i).2 (runs i (accepts_single_iff.2 rfl))
  | both w => exact (edgeDue_both o w).2 ⟨runs _ (accepts_both_iff.2 (.inl rfl)), runs _ (accepts_both_iff.2 (.inr rfl))⟩

theorem acceptLevels_level_of_accepts (e : Edge) (o : Odometer) {i : Input} (h : edgeAccepts e i) :
    (acceptLevels o e).accepted.level i = o.pins.level i := by
  cases e with
  | single j =>
    obtain rfl := accepts_single_iff.1 h
    exact PinLevels.level_withLevel_same ..
  | both w =>
    rcases accepts_both_iff.1 h with rfl | rfl
    · exact (PinLevels.level_withLevel_of_ne _ (inputA_ne_inputB w) _).trans (PinLevels.level_withLevel_same ..)
    · exact PinLevels.level_withLevel_same ..

theorem acceptLevels_level_of_not_accepts (e : Edge) (o : Odometer) {i : Input} (h : ¬ edgeAccepts e i) :
    (acceptLevels o e).accepted.level i = o.accepted.level i := by
  cases e with
  | single j => exact PinLevels.level_withLevel_of_ne _ (fun same => h (accepts_single_iff.2 same)) _
  | both w =>
    have apart : ¬ (i = w.inputA ∨ i = w.inputB) := fun same => h (accepts_both_iff.2 same)
    exact (PinLevels.level_withLevel_of_ne _ (fun b => apart (.inr b)) _).trans
      (PinLevels.level_withLevel_of_ne _ (fun a => apart (.inl a)) _)

theorem acceptLevels_eq (e : Edge) (o : Odometer) : acceptLevels o e = { o with accepted := (acceptLevels o e).accepted } := by
  cases e <;> rfl

theorem countWheel_accepted (w : Wheel) (d : Int) (o : Odometer) : (countWheel w d o).accepted = o.accepted := by
  simp only [countWheel, resync]
  split
  · split <;> cases w <;> rfl
  · rfl

theorem takePair_accepted (w : Wheel) (o : Odometer) : (takePair w o).accepted = o.accepted := by
  have decoded : (applyDecoded w o (decodeChange o w (o.accepted.pair w))).accepted = o.accepted := by
    cases decodeChange o w (o.accepted.pair w) with
    | nothing => rfl
    | up => exact countWheel_accepted w 1 o
    | down => exact countWheel_accepted w (-1) o
    | error => cases w <;> rfl
  rw [← decoded]
  cases w <;> rfl

theorem acceptEdge_accepted (e : Edge) (o : Odometer) : (acceptEdge e o).accepted = (acceptLevels o e).accepted := by
  unfold acceptEdge
  split
  · exact takePair_accepted ..
  · rfl

/-- An edge of a wheel's input gives that wheel's decoder its new pair. -/
theorem acceptEdge_of_wheel {e : Edge} {w : Wheel} (h : e.wheel = some w) (o : Odometer) :
    acceptEdge e o = takePair w { o with accepted := (acceptEdge e o).accepted } := by
  rw [acceptEdge_accepted, ← acceptLevels_eq]
  simp only [acceptEdge, h]

theorem acceptEdge_dir (o : Odometer) : acceptEdge (.single .dir) o = { o with accepted := (acceptEdge (.single .dir) o).accepted } :=
  rfl

end

/-! ## Counts (R42, R43, R45) -/

section
variable {w : Wheel} {d : Int} {o : Odometer}

/-- The counts and p after a count of wheel `w` in direction `d`, before the resync. -/
def Odometer.counted (o : Odometer) (w : Wheel) (d : Int) : Odometer :=
  { o.withCount w (o.count w + d) with p := followWheel o.p (o.count w + d) d }

theorem countWheel_of_past (past : o.count w + d < -2147483648 ∨ 2147483647 < o.count w + d) :
    countWheel w d o = { o with saturated := true } :=
  if_neg (by simp only [countFits]; omega)

theorem countWheel_of_fits (low : -2147483648 ≤ o.count w + d) (high : o.count w + d ≤ 2147483647) :
    countWheel w d o = resync (o.counted w d) := if_pos ⟨low, high⟩

theorem slipped_iff : o.slipped = true ↔
    o.mode1 ≠ .off ∧ o.mode2 ≠ .off ∧ 0 < o.slipLimit ∧ o.slipLimit < (o.w1 - o.w2).natAbs := by
  simp [Odometer.slipped, Odometer.bothEnabled, and_assoc]

theorem counted_modes (w : Wheel) (d : Int) (o : Odometer) :
    (o.counted w d).mode1 = o.mode1 ∧ (o.counted w d).mode2 = o.mode2 ∧ (o.counted w d).slipLimit = o.slipLimit
      ∧ (o.counted w d).slipCount = o.slipCount := by
  cases w <;> exact ⟨rfl, rfl, rfl, rfl⟩

end

/-! ## PULSE and OFF (R39, R41) -/

section
variable {w : Wheel} {o : Odometer} {new : Bool × Bool}

theorem takePair_of_off (off : o.mode w = .off) : takePair w o = o.withPair w (o.accepted.pair w) := by
  simp only [takePair, decodeChange, off, applyDecoded]

theorem decodeChange_of_pulse (pulse : o.mode w = .pulse) (new : Bool × Bool) : decodeChange o w new =
    if (o.decoderPair w).1 = false ∧ new.1 = true then (if o.accepted.dir then .up else .down) else .nothing := by
  simp only [decodeChange, pulse, pulseDecode]

theorem takePair_of_rising (pulse : o.mode w = .pulse) (arrives : new = o.accepted.pair w) (low : (o.decoderPair w).1 = false)
    (high : new.1 = true) : takePair w o = (countWheel w (if o.accepted.dir then 1 else -1) o).withPair w new := by
  rw [takePair, ← arrives, decodeChange_of_pulse pulse, if_pos ⟨low, high⟩]
  cases o.accepted.dir <;> rfl

theorem takePair_of_not_rising (pulse : o.mode w = .pulse) (arrives : new = o.accepted.pair w)
    (no : ¬ ((o.decoderPair w).1 = false ∧ new.1 = true)) : takePair w o = o.withPair w new := by
  rw [takePair, ← arrives, decodeChange_of_pulse pulse, if_neg no]
  rfl

end

/-- Settles O48. -/
theorem odometerInputs : Obligations.OdometerInputs := by
  refine ⟨fun i level s => ⟨_, rfl, PinLevels.level_withLevel_same .., fun j h => PinLevels.level_withLevel_of_ne _ h _⟩, ?_, ?_,
    fun o w => takePair_of_off, fun o w new pulse => ⟨decodeChange_of_pulse pulse new, takePair_of_rising pulse,
      takePair_of_not_rising pulse⟩⟩
  · intro e s accepts runs o
    refine ⟨if_pos (edgeDue_of_accepts runs), fun i h => ?_, fun i h => ?_, ?_, fun w h => acceptEdge_of_wheel h s.odo⟩
    · exact (congrArg (PinLevels.level · i) (acceptEdge_accepted e s.odo)).trans (acceptLevels_level_of_accepts e s.odo h)
    · exact (congrArg (PinLevels.level · i) (acceptEdge_accepted e s.odo)).trans (acceptLevels_level_of_not_accepts e s.odo h)
    · rintro rfl
      exact acceptEdge_dir s.odo
  · intro w d o unit c p u apart
    have counted : o.counted w d = u := rfl
    obtain ⟨mode1, mode2, limit, count⟩ := counted_modes w d o
    have slipped : u.slipped = true ↔ apart := by
      rw [slipped_iff, ← counted, mode1, mode2, limit]
      exact Iff.rfl
    refine ⟨countWheel_of_past, fun low high near => ?_, fun low high far => ?_, fun law on off one => ?_, fun law off on two => ?_⟩
    · rw [countWheel_of_fits low high]
      exact resync_of_not_slipped (Bool.eq_false_iff.2 (mt slipped.1 near))
    · rw [countWheel_of_fits low high]
      refine (resync_of_slipped (slipped.2 far)).trans ?_
      rw [counted] at count
      rw [count]
      rfl
    · have led : o.w1 = o.p := (law.first on off).symm
      subst one
      simp only [p, c, Odometer.count, led, if_true]
    · have led : o.w2 = o.p := (law.second off on).symm
      subst two
      simp only [p, c, Odometer.count, led, if_true]

end Sys2Proof.Machine

/-! SUPPORT. EXPOSE as taken (R62 to R64, R82, R164), and the statement about it. -/

namespace Sys2Proof.Machine

set_option Elab.async false

/-! ## What taking a step leaves as it was -/

section
variable {s : State} {l : LaneId}

theorem State.withLane_lane_of_ne (s : State) (x : Lane) {m : LaneId} (h : m ≠ l) : (s.withLane l x).lane m = s.lane m :=
  Four.get_set_ne _ _ h

theorem State.took_lane_stage (m : LaneId) : ((s.took l).lane m).stage = (s.lane m).stage := by
  by_cases h : m = l
  · subst h
    rw [State.took_lane]
  · rw [State.took, State.withLane_lane_of_ne s _ h]

theorem keptClaims_congr {t : State} (slots : t.slots = s.slots) (stages : ∀ m, (t.lane m).stage = (s.lane m).stage) :
    keptClaims t = keptClaims s := by
  rw [keptClaims_eq, keptClaims_eq, slots]
  simp only [funext fun m => show exposeWaiting t m = exposeWaiting s m by rw [exposeWaiting_eq, exposeWaiting_eq, stages]]

/-! ## Tags and kept claims (R81, R82) -/

theorem boundSlot_eq_none_iff {t : Tag} : boundSlot s l t = none ↔ ¬ ∃ y ∈ s.slots, y.binding = some (l, t) := by
  rw [boundSlot, firstIndex_eq_findIdx?, List.findIdx?_eq_none_iff]
  simp

theorem boundSlot_isSome_iff {t : Tag} : (boundSlot s l t).isSome = true ↔ ∃ y ∈ s.slots, y.binding = some (l, t) := by
  refine Decidable.not_iff_not.mp ?_
  rw [← boundSlot_eq_none_iff, Bool.not_eq_true, Option.isSome_eq_false_iff, Option.isNone_iff_eq_none]

theorem keepLimitReached_iff : keepLimitReached s = true ↔ s.intake.slotCount < keptClaims s + 3 := decide_eq_true_iff

theorem Slot.holds_iff (x : Slot) (k : FrameKind) : x.holds k = true ↔ x.record.map (·.kind) = some k := by
  unfold Slot.holds
  split <;> next h => simp [h]

/-! ## EXPOSE (R62 to R64, R164) -/

section
variable {w : StepWord}

/-- The operands of an EXPOSE are in range (R164). -/
def ExposeInRange (w : StepWord) : Prop := w.operand 17 1 ≠ 0 ∧ 20 ≤ w.operand 18 2 ∧ w.operand 18 2 ≤ 10000

theorem exposeCheck_of_operands (out : ¬ ExposeInRange w) : exposeCheck s l w = some .operand := by
  rw [exposeCheck]
  by_cases dark : w.operand 17 1 = 0
  · rw [if_pos dark]
  · rw [if_neg dark, if_pos]
    simp only [ExposeInRange] at out
    omega

theorem exposeCheck_of_inRange (inside : ExposeInRange w) : exposeCheck s l w =
    if (boundSlot s l w.tag).isSome then some .tagInUse else if keepLimitReached s then some .keepLimit else none := by
  obtain ⟨lit, short, long⟩ := inside
  rw [exposeCheck, if_neg lit, if_neg (by omega)]

theorem eq_singleton_of_nodup {α : Type} {a : α} {xs : List α} (once : xs.Nodup) (mem : a ∈ xs) (only : ∀ b ∈ xs, b = a) :
    xs = [a] := by
  match xs, once, mem, only with
  | [b], _, _, only => rw [only b (by simp)]
  | b :: c :: _, once, _, only =>
    have same : b = c := (only b (by simp)).trans (only c (by simp)).symm
    simp [same] at once

/-- The lane alone waits for the head. -/
theorem headWaiters_of_joined (s : State) {y : Lane} (w : StepWord) (waits : y.stage = .exposeWait w) (none : headWaiters s = []) :
    headWaiters (s.withLane l y) = [.expose l] := by
  obtain ⟨noTrigger, noExpose⟩ := headWaiters_eq_nil_iff.mp none
  have only : ∀ a ∈ headWaiters (s.withLane l y), a = .expose l := by
    rintro (m | m) mem
    · exact absurd ⟨m, (survey_mem_headWaiters (s := s.withLane l y) m).mp mem⟩ noTrigger
    · obtain ⟨step, stage⟩ := (expose_mem_headWaiters m).mp mem
      by_cases same : m = l
      · rw [same]
      · rw [State.withLane_lane_of_ne s y same] at stage
        exact absurd stage (noExpose m step)
  have joined : Waiter.expose l ∈ headWaiters (s.withLane l y) :=
    (expose_mem_headWaiters l).mpr ⟨w, by rw [State.withLane_lane_same, waits]⟩
  have once : (headWaiters (s.withLane l y)).Nodup :=
    (headWaiters_pairwise _).imp fun {a b} before => by
      rintro rfl
      rcases before with lt | ⟨-, lt | ⟨-, survey, expose⟩⟩
      · exact Fin.lt_irrefl _ lt
      · exact Fin.lt_irrefl _ lt
      · cases survey.symm.trans expose
  exact eq_singleton_of_nodup once joined only

theorem joinWaiters_of_cutoff (cutoff : s.supply.state = .cutoff) :
    joinWaiters l w s = s.ended l w .exception (zeros 8 ++ 1 :: zeros 3) .advance := by
  rw [joinWaiters, if_pos cutoff, endStep_eq_ended]
  rfl

theorem joinWaiters_of_halt (supply : s.supply.state ≠ .cutoff) (halt : (s.lane l).haltPending = true) :
    joinWaiters l w s = abandonForHalt l w s := by
  rw [joinWaiters, if_neg supply, if_pos halt]

theorem joinWaiters_of_free (supply : s.supply.state ≠ .cutoff) (halt : (s.lane l).haltPending = false) :
    joinWaiters l w s = headArbitrate (s.atStage l (.exposeWait w)) := by
  rw [joinWaiters, if_neg supply, if_neg (by simp [halt])]
  rfl

end

end

/-- Settles O50. -/
theorem exposeStep : Obligations.ExposeStep := by
  intro l w s taking x inRange tagUsed full passes waits now
  have exposes : exec (.expose l) s = .next (takeExpose l w (s.took l)) := taking_of_taking taking _
  have claims : keptClaims (s.took l) = keptClaims s := keptClaims_congr rfl fun m => State.took_lane_stage m
  have used : (boundSlot (s.took l) l w.tag).isSome = true ↔ tagUsed := boundSlot_isSome_iff
  have atLimit : keepLimitReached (s.took l) = true ↔ full := by rw [keepLimitReached_iff, claims]; exact Iff.rfl
  have lane : (s.took l).lane l = { x with holdPass := false, afterJump := false } := State.took_lane s l
  have passed (h : passes) : exec (.expose l) s = .next (joinWaiters l w (s.took l)) := by
    obtain ⟨inside, unused, room⟩ := h
    rw [exposes, takeExpose, exposeCheck_of_inRange inside, if_neg (mt used.mp unused), if_neg (mt atLimit.mp room)]
  refine ⟨?_, exposeWaiting_iff s, canAllocate_iff s, fun out => ?_, fun inside is => ?_, fun inside unused above => ?_,
    fun h cutoff => ?_, fun h supply halt => ?_, fun h supply halt => ?_⟩
  · rw [keptClaims, ← List.countP_eq_length_filter, ← List.countP_eq_length_filter, ← List.countP_eq_length_filter]
    congr 2
    refine congrArg (List.countP · s.slots) (funext fun y => ?_)
    rw [Bool.eq_iff_iff]
    simp [Slot.holds_iff, and_left_comm, and_comm]
  · exact exposes.trans (congrArg Host.Outcome.next (by rw [takeExpose, exposeCheck_of_operands out]; exact checkStep_eq_checked ..))
  · refine exposes.trans (congrArg Host.Outcome.next ?_)
    rw [takeExpose, exposeCheck_of_inRange inside, if_pos (used.mpr is)]
    exact checkStep_eq_checked ..
  · refine exposes.trans (congrArg Host.Outcome.next ?_)
    rw [takeExpose, exposeCheck_of_inRange inside, if_neg (mt used.mp unused), if_pos (atLimit.mpr above)]
    exact checkStep_eq_checked ..
  · exact (passed h).trans (congrArg Host.Outcome.next (joinWaiters_of_cutoff cutoff))
  · refine (passed h).trans (congrArg Host.Outcome.next ?_)
    rw [joinWaiters_of_halt (s := s.took l) supply (by rw [lane]; exact halt), abandonForHalt_eq, lane]
    rfl
  · have joins : exec (.expose l) s = .next (headArbitrate waits) :=
      (passed h).trans (congrArg Host.Outcome.next (joinWaiters_of_free (s := s.took l) supply (by rw [lane]; exact halt)))
    refine ⟨joins, fun busy => joins.trans (congrArg Host.Outcome.next ?_), fun free room none =>
      joins.trans (congrArg Host.Outcome.next ?_)⟩
    · refine headArbitrate_of_not_grantable (Bool.eq_false_iff.2 fun grantable => busy ?_)
      obtain ⟨free, room, -⟩ := (headGrantable_iff waits).mp grantable
      exact ⟨free, (canAllocate_iff s).mpr room⟩
    · have stage : (waits.lane l).stage = .exposeWait w := by simp [waits, State.atStage]
      have waiter : headWaiters waits = [.expose l] := by
        simp only [waits, State.atStage, State.took, State.withLane_withLane]
        exact headWaiters_of_joined s w rfl none
      rw [headArbitrate_of_grantable ((headGrantable_iff waits).mpr ⟨free, (canAllocate_iff s).mp room, supply⟩), waiter]
      exact fireExpose_of_wait stage

end Sys2Proof.Machine

/-! SUPPORT. KEEP, RELEASE and RENDER as taken (R167 to R169), and the statement about them. -/

namespace Sys2Proof.Machine

set_option Elab.async false

/-! ## The frame that KEEP binds (R167) -/

section
variable {s : State}

theorem positions_pairwise {α : Type} (q : α → Bool) (i : Nat) (xs : List α) : (positions q i xs).Pairwise (· < ·) := by
  induction xs generalizing i with
  | nil => exact List.Pairwise.nil
  | cons x xs ih =>
    rw [positions]
    split
    · refine List.Pairwise.cons (fun j mem => ?_) (ih (i + 1))
      obtain ⟨le, -⟩ := mem_positions_iff.mp mem
      exact le
    · exact ih (i + 1)

/-- Slot `i` goes before slot `j`: its frame has the higher sequence number, or the same one and `i` is the lower. -/
def Ahead (s : State) (i j : Nat) : Prop := (s.slot j).seqNat < (s.slot i).seqNat ∨ (s.slot j).seqNat = (s.slot i).seqNat ∧ i ≤ j

theorem Ahead.refl (s : State) (i : Nat) : Ahead s i i := .inr ⟨rfl, Nat.le_refl i⟩

theorem Ahead.trans {i j k : Nat} (h : Ahead s i j) (g : Ahead s j k) : Ahead s i k := by
  unfold Ahead at *
  omega

theorem Ahead.antisymm {i j : Nat} (h : Ahead s i j) (g : Ahead s j i) : i = j := by
  unfold Ahead at *
  omega

theorem ahead_higherSeq {a b : Nat} (lt : a < b) : Ahead s (higherSeq s a b) a ∧ Ahead s (higherSeq s a b) b := by
  unfold higherSeq Ahead
  split <;> omega

theorem foldl_higherSeq_ahead (i : Nat) (is : List Nat) (order : (i :: is).Pairwise (· < ·)) :
    ∀ j ∈ i :: is, Ahead s (is.foldl (higherSeq s) i) j := by
  induction is generalizing i with
  | nil =>
    intro j mem
    rw [List.mem_singleton.mp mem]
    exact .refl s i
  | cons a as ih =>
    obtain ⟨before, rest⟩ := List.pairwise_cons.mp order
    obtain ⟨first, second⟩ := ahead_higherSeq (s := s) (before a (by simp))
    have order' : (higherSeq s i a :: as).Pairwise (· < ·) := by
      refine List.pairwise_cons.mpr ⟨fun b mem => ?_, (List.pairwise_cons.mp rest).2⟩
      rcases higherSeq_eq_or s i a with same | same <;> rw [same]
      · exact before b (by simp [mem])
      · exact (List.pairwise_cons.mp rest).1 b mem
    obtain ⟨ahead, others⟩ := List.forall_mem_cons.mp (ih (higherSeq s i a) order')
    exact List.forall_mem_cons.mpr ⟨ahead.trans first, List.forall_mem_cons.mpr ⟨ahead.trans second, others⟩⟩

/-- Slot `i` holds a survey frame that KEEP may bind. -/
def Keepable (s : State) (i : Nat) : Prop := i < s.slots.length ∧ ((s.slot i).state = .rendering ∨ (s.slot i).state = .done)
  ∧ ∃ e, (s.slot i).record = some e ∧ e.kind = .survey

theorem mem_keepablePositions_iff {i : Nat} : i ∈ positions Slot.keepable 0 s.slots ↔ Keepable s i := by
  have keeps (x : Slot) : x.keepable = true ↔
      (x.state = .rendering ∨ x.state = .done) ∧ ∃ e, x.record = some e ∧ e.kind = .survey := by
    rw [Slot.keepable, Bool.and_eq_true, Slot.holds_iff, decide_eq_true_iff, and_comm, Option.map_eq_some_iff]
  rw [mem_positions_iff]
  constructor
  · rintro ⟨-, x, found, keep⟩
    obtain ⟨lt, rfl⟩ := List.getElem?_eq_some_iff.mp (by simpa using found)
    exact ⟨lt, by simpa [State.slot, lt] using (keeps _).mp keep⟩
  · rintro ⟨lt, keep⟩
    exact ⟨Nat.zero_le i, s.slot i, State.getElem?_slots lt, (keeps _).mpr keep⟩

theorem keepCandidate_eq_none (nowhere : ∀ i, ¬ Keepable s i) : keepCandidate s = none := by
  have empty : positions Slot.keepable 0 s.slots = [] :=
    List.eq_nil_iff_forall_not_mem.mpr fun i mem => nowhere i (mem_keepablePositions_iff.mp mem)
  simp only [keepCandidate, empty]

theorem keepCandidate_eq_some {i : Nat} (can : Keepable s i) (best : ∀ j, Keepable s j → Ahead s i j) :
    keepCandidate s = some i := by
  have mem := mem_keepablePositions_iff.mpr can
  cases found : positions Slot.keepable 0 s.slots with
  | nil =>
    rw [found] at mem
    cases mem
  | cons a as =>
    have order := positions_pairwise Slot.keepable 0 s.slots
    rw [found] at mem order
    have chosen : as.foldl (higherSeq s) a ∈ positions Slot.keepable 0 s.slots :=
      found ▸ foldl_choice_mem (higherSeq_eq_or s) a as
    have ahead := foldl_higherSeq_ahead (s := s) a as order i mem
    simp only [keepCandidate, found]
    rw [ahead.antisymm (best _ (mem_keepablePositions_iff.mp chosen))]

theorem takeKeep_of_none {l : LaneId} {w : StepWord} (none : keepCandidate s = none) :
    takeKeep l w s = s.checked l w .nothingToKeep := by
  simp only [takeKeep, none, checkStep_eq_checked]

theorem takeKeep_of_some {l : LaneId} {w : StepWord} {i : Nat} (candidate : keepCandidate s = some i) : takeKeep l w s =
    if (boundSlot s l w.tag).isSome then s.checked l w .tagInUse
    else if keepLimitReached s then s.checked l w .keepLimit else bindSlot l w i s := by
  simp only [takeKeep, candidate, checkStep_eq_checked]

theorem bindSlot_eq {l : LaneId} {w : StepWord} {i : Nat} {e : ExposureRecord} (here : i < s.slots.length)
    (record : (s.slot i).record = some e) : bindSlot l w i s =
      State.ended { s with slots := s.slots.set i { s.slot i with state := .kept, binding := some (l, w.tag) } } l w .done
        (le 4 e.seq.toNat ++ leInt 4 e.pos ++ le 1 i ++ le 1 e.lane.val
          ++ [if (s.slot i).state = .rendering then 1 else 0, 0]) .advance := by
  have results : keepResults e i (decide ((s.slot i).state = .rendering)) = le 4 e.seq.toNat ++ leInt 4 e.pos ++ le 1 i
      ++ le 1 e.lane.val ++ [if (s.slot i).state = .rendering then 1 else 0, 0] := by
    by_cases rendering : (s.slot i).state = .rendering <;> simp only [keepResults, rendering, List.append_assoc] <;> rfl
  simp only [bindSlot, record, endStep_eq_ended, State.setSlot_eq_set here, results]

/-! ## RELEASE (R168) -/

theorem boundSlot_eq_some {l : LaneId} {t : Tag} {i : Nat} (here : i < s.slots.length) (bound : (s.slot i).binding = some (l, t))
    (first : ∀ j, j < i → ¬ (j < s.slots.length ∧ (s.slot j).binding = some (l, t))) : boundSlot s l t = some i := by
  rw [boundSlot, firstIndex_eq_findIdx?, List.findIdx?_eq_some_iff_getElem]
  refine ⟨here, decide_eq_true (by rw [← State.slot_eq_getElem here]; exact bound), fun j lt => ?_⟩
  rw [← State.slot_eq_getElem (Nat.lt_trans lt here)]
  simpa using fun held => first j lt ⟨Nat.lt_trans lt here, held⟩

theorem releaseSlot_of_inUse {l : LaneId} {w : StepWord} {i : Nat} (here : i < s.slots.length) (inUse : (s.slot i).inUse = true) :
    releaseSlot l w i s = State.ended { s with slots := s.slots.set i { s.slot i with binding := none, releasePending := true } }
      l w .done (le 4 (s.slot i).seqNat ++ 1 :: zeros 7) .advance := by
  simp only [releaseSlot, inUse, if_true, endStep_eq_ended, State.setSlot_eq_set here, Slot.unkeep, releaseResults, List.append_assoc]
  rfl

theorem releaseSlot_of_free {l : LaneId} {w : StepWord} {i : Nat} (here : i < s.slots.length) (free : (s.slot i).inUse = false) :
    releaseSlot l w i s = headArbitrate (State.ended { s with slots := s.slots.set i Slot.empty }
      l w .done (le 4 (s.slot i).seqNat ++ zeros 8) .advance) := by
  simp only [releaseSlot, free, Bool.false_eq_true, if_false, endStep_eq_ended, State.setSlot_eq_set here, Slot.unkeep, releaseResults,
    List.append_assoc]
  rfl

/-! ## RENDER (R169) -/

/-- The operands of a RENDER are in range (R169). -/
def PatchOps.Fits (o : PatchOps) : Prop := 1 ≤ o.cols ∧ o.cols ≤ 2048 ∧ 1 ≤ o.rows ∧ o.rows ≤ 2048 ∧ 100 ≤ o.pitch
  ∧ o.pitch ≤ 10000 ∧ 1 ≤ o.zStart ∧ o.zStart ≤ 4000000 ∧ o.dest.toNat % 16 = 0 ∧ o.cols ≤ 16 * o.stride

theorem renderCheck_of_operands {l : LaneId} {o : PatchOps} (out : ¬ PatchOps.Fits o) : renderCheck s l o = some .operand := by
  rw [renderCheck]
  iterate 6 refine ite_eq_left_iff.mpr fun _ => ?_
  exact absurd (by unfold PatchOps.Fits; omega) out

theorem renderCheck_of_fits {l : LaneId} {o : PatchOps} (fits : PatchOps.Fits o) : renderCheck s l o =
    if (boundSlot s l o.tag).isNone then some .tagUnknown
    else if ¬ (s.lane l).context.complete then some .context
    else if (s.lane l).context.geometry.width ≤ o.k0 then some .operand
    else none := by
  obtain ⟨cols, cols', rows, rows', pitch, pitch', start, start', dest, stride⟩ := fits
  rw [renderCheck, if_neg (by omega), if_neg (by omega), if_neg (by omega), if_neg (by omega), if_neg (by omega), if_neg (by omega)]

end

/-- Settles O51. -/
theorem keepReleaseRenderSteps : Obligations.KeepReleaseRenderSteps := by
  intro l w s used full o g fits can best holds refused withSlot
  have claims : keptClaims (s.took l) = keptClaims s := keptClaims_congr rfl fun m => State.took_lane_stage m
  have isUsed (t : Tag) : (boundSlot (s.took l) l t).isSome = true ↔ used t := boundSlot_isSome_iff
  have atLimit : keepLimitReached (s.took l) = true ↔ full := by rw [keepLimitReached_iff, claims]; exact Iff.rfl
  refine ⟨fun taking => ?_, fun taking => ?_, fun taking => ?_⟩
  · have keeps : exec (.keep l) s = .next (takeKeep l w (s.took l)) := taking_of_taking taking _
    refine ⟨fun none => keeps.trans (congrArg _ (takeKeep_of_none (keepCandidate_eq_none (s := s.took l) none))), ?_⟩
    rintro i e ⟨able, first⟩ record
    have candidate : keepCandidate (s.took l) = some i := keepCandidate_eq_some (s := s.took l) able first
    rw [keeps, takeKeep_of_some candidate]
    refine ⟨fun is => ?_, fun unused above => ?_, fun unused room => ?_⟩
    · exact keeps.trans (congrArg _ ((takeKeep_of_some candidate).trans (if_pos ((isUsed _).mpr is))))
    · refine keeps.trans (congrArg _ ?_)
      rw [takeKeep_of_some candidate, if_neg (mt (isUsed _).mp unused), if_pos (atLimit.mpr above)]
    · rw [if_neg (mt (isUsed _).mp unused), if_neg (mt atLimit.mp room)]
      exact congrArg _ (bindSlot_eq (s := s.took l) able.1 record)
  · have releases : exec (.release l) s = .next (takeRelease l w (s.took l)) := taking_of_taking taking _
    refine ⟨fun unused => ?_, fun i held first => ?_⟩
    · have none : boundSlot (s.took l) l w.tag = none := boundSlot_eq_none_iff.mpr unused
      refine releases.trans (congrArg _ ?_)
      simp only [takeRelease, none, checkStep_eq_checked]
    · have bound : boundSlot (s.took l) l w.tag = some i := boundSlot_eq_some (s := s.took l) held.1 held.2 first
      have frees : takeRelease l w (s.took l) = releaseSlot l w i (s.took l) := by simp only [takeRelease, bound]
      rw [releases, frees]
      exact ⟨fun inUse => congrArg _ (releaseSlot_of_inUse (s := s.took l) held.1 inUse),
        fun free => congrArg _ (releaseSlot_of_free (s := s.took l) held.1 free)⟩
  · have renders : exec (.render l) s = .next (takeRender l w (s.took l)) := taking_of_taking taking _
    have context : ((s.took l).lane l).context = (s.lane l).context := by rw [State.took_lane]
    have known (t : Tag) : (boundSlot (s.took l) l t).isNone = true ↔ ¬ used t := by
      rw [Option.isNone_iff_eq_none]; exact boundSlot_eq_none_iff
    have refuses {e : CheckCode} (h : renderCheck (s.took l) l o = some e) : refused (.render l) e := by
      refine renders.trans (congrArg _ ?_)
      simp only [takeRender, show renderCheck (s.took l) l w.patchOps = some e from h, checkStep_eq_checked]
    refine ⟨fun out => refuses (renderCheck_of_operands out), fun inside unused => refuses ?_, fun inside is lacks => refuses ?_,
      fun inside is complete past => refuses ?_, fun inside is complete within => renders.trans (congrArg _ ?_)⟩
    · rw [renderCheck_of_fits inside, if_pos ((known _).mpr unused)]
    · rw [renderCheck_of_fits inside, if_neg (mt (known _).mp (not_not_intro is)), if_pos (by simp [lacks])]
    · rw [renderCheck_of_fits inside, if_neg (mt (known _).mp (not_not_intro is)), if_neg (by simp [complete]), context,
        if_pos past]
    · have passes : renderCheck (s.took l) l w.patchOps = none := by
        rw [renderCheck_of_fits inside, if_neg (mt (known _).mp (not_not_intro is)), if_neg (by simp [complete]), context,
          if_neg (Nat.not_le.2 within)]
      simp only [takeRender, passes]
      rfl

end Sys2Proof.Machine

/-! SUPPORT. The order of the render grants and which requests are eligible (R161, R179). -/

namespace Sys2Proof.Machine

set_option Elab.async false

/-! ## The order of the grants (R161) -/

section
variable {s : State} {q : Request}

/-- The lane that a request is of. -/
def Request.owner : Request → LaneId
  | .survey l _ => l
  | .patch l _ => l

/-- A request of a patch render. -/
def Request.isPatch : Request → Bool
  | .survey _ _ => false
  | .patch _ _ => true

/-- Request `q` is granted no later than request `p`, as far as class, lane and kind say it (R161). -/
def GrantedBefore (s : State) (q p : Request) : Prop :=
  (s.lane q.owner).cls ≤ (s.lane p.owner).cls ∧ ((s.lane p.owner).cls = (s.lane q.owner).cls → q.owner ≤ p.owner)
    ∧ (p.owner = q.owner → q.isPatch = true → p.isPatch = true)

theorem GrantedBefore.refl (s : State) (q : Request) : GrantedBefore s q q := ⟨Fin.le_refl _, fun _ => Fin.le_refl _, fun _ patch => patch⟩

theorem Request.isSurveyOf_iff (q : Request) (l : LaneId) : q.isSurveyOf l = true ↔ q.owner = l ∧ q.isPatch = false := by
  cases q <;> simp [Request.isSurveyOf, Request.owner, Request.isPatch]

theorem Request.isPatchOf_iff (q : Request) (l : LaneId) : q.isPatchOf l = true ↔ q.owner = l ∧ q.isPatch = true := by
  cases q <;> simp [Request.isPatchOf, Request.owner, Request.isPatch]

/-- The requests of one lane in grant order. -/
def laneRequests (s : State) (l : LaneId) : List Request :=
  s.requests.filter (Request.isSurveyOf l) ++ s.requests.filter (Request.isPatchOf l)

theorem mem_laneRequests {l : LaneId} : q ∈ laneRequests s l ↔ q ∈ s.requests ∧ q.owner = l := by
  rw [laneRequests, List.mem_append, List.mem_filter, List.mem_filter, Request.isSurveyOf_iff, Request.isPatchOf_iff, ← and_or_left,
    ← and_or_left]
  cases q.isPatch <;> simp

theorem grantOrder_eq (s : State) : grantOrder s = (lanesByClass s).flatMap (laneRequests s) := rfl

theorem mem_grantOrder : q ∈ grantOrder s ↔ q ∈ s.requests := by
  rw [grantOrder_eq, List.mem_flatMap]
  constructor
  · rintro ⟨l, -, mem⟩
    exact (mem_laneRequests.mp mem).1
  · exact fun asked => ⟨q.owner, mem_lanesByClass s _, mem_laneRequests.mpr ⟨asked, rfl⟩⟩

theorem pairwise_of_mem {α : Type} {R : α → α → Prop} {xs : List α} (all : ∀ a ∈ xs, ∀ b ∈ xs, R a b) : xs.Pairwise R :=
  List.pairwise_iff_getElem.mpr fun _ _ _ _ _ => all _ (List.getElem_mem _) _ (List.getElem_mem _)

theorem laneRequests_pairwise (s : State) (l : LaneId) :
    (laneRequests s l).Pairwise fun q p => q.isPatch = true → p.isPatch = true := by
  rw [laneRequests, List.pairwise_append]
  refine ⟨pairwise_of_mem fun q first p _ patch => ?_, pairwise_of_mem fun q _ p second _ => ?_,
    fun q first p _ patch => ?_⟩
  · simp [((q.isSurveyOf_iff l).mp (List.mem_filter.mp first).2).2] at patch
  · exact ((p.isPatchOf_iff l).mp (List.mem_filter.mp second).2).2
  · simp [((q.isSurveyOf_iff l).mp (List.mem_filter.mp first).2).2] at patch

theorem grantOrder_pairwise (s : State) : (grantOrder s).Pairwise (GrantedBefore s) := by
  rw [grantOrder_eq, List.pairwise_flatMap]
  refine ⟨fun l _ => ?_, (lanesByClass_pairwise s).imp fun {l m} before q hq p hp => ?_⟩
  · refine (laneRequests_pairwise s l).imp_of_mem fun {q p} hq hp kinds => ?_
    rw [GrantedBefore, (mem_laneRequests.mp hq).2, (mem_laneRequests.mp hp).2]
    exact ⟨Fin.le_refl _, fun _ => Fin.le_refl _, fun _ => kinds⟩
  · rw [GrantedBefore, (mem_laneRequests.mp hq).2, (mem_laneRequests.mp hp).2]
    rcases before with lt | ⟨same, lt⟩
    · exact ⟨Fin.le_of_lt lt, fun e => absurd e (Fin.ne_of_gt lt), fun e => absurd (e ▸ lt) (Fin.lt_irrefl _)⟩
    · exact ⟨Fin.le_of_eq same, fun _ => Fin.le_of_lt lt, fun e => absurd e (Fin.ne_of_gt lt)⟩

theorem nextGrant_isNone_of_busy (busy : s.rect.render.isSome = true) : nextGrant s = none := if_pos busy

theorem nextGrant_of_idle (idle : s.rect.render = none) : nextGrant s = (grantOrder s).find? (requestEligible s) :=
  if_neg (by simp [idle])

theorem nextGrant_isSome (idle : s.rect.render = none) (asked : ∃ q ∈ s.requests, requestEligible s q = true) :
    (nextGrant s).isSome = true := by
  obtain ⟨q, mem, eligible⟩ := asked
  rw [nextGrant_of_idle idle, List.find?_isSome]
  exact ⟨q, mem_grantOrder.mpr mem, eligible⟩

/-- The request granted stands in the grant order behind requests that are not eligible only. -/
theorem nextGrant_split (granted : nextGrant s = some q) :
    ∃ before after, grantOrder s = before ++ q :: after ∧ ∀ p ∈ before, requestEligible s p = false := by
  obtain ⟨-, -, idle⟩ := nextGrant_eq_some granted
  rw [nextGrant_of_idle idle] at granted
  obtain ⟨-, before, after, order, none⟩ := List.find?_eq_some_iff_append.mp granted
  exact ⟨before, after, order, fun p mem => by simpa using none p mem⟩

theorem nextGrant_before (granted : nextGrant s = some q) {p : Request} (asked : p ∈ s.requests)
    (eligible : requestEligible s p = true) : GrantedBefore s q p := by
  obtain ⟨before, after, order, none⟩ := nextGrant_split granted
  have mem := mem_grantOrder.mpr asked
  have pairs := grantOrder_pairwise s
  rw [order] at mem pairs
  rcases List.mem_append.mp mem with early | here
  · simp [none p early] at eligible
  rcases List.mem_cons.mp here with rfl | late
  · exact .refl s p
  · exact List.rel_of_pairwise_cons (List.pairwise_append.mp pairs).2.1 late

/-! ## One lane's survey requests, in joining order -/

theorem lanesByClass_nodup (s : State) : (lanesByClass s).Nodup :=
  (lanesByClass_pairwise s).imp fun {l m} before => by
    rintro rfl
    rcases before with lt | ⟨-, lt⟩ <;> exact Fin.lt_irrefl _ lt

theorem flatMap_ite_eq {α β : Type} [DecidableEq α] (a : α) (xs : List β) {ls : List α} (once : ls.Nodup) (mem : a ∈ ls) :
    (ls.flatMap fun b => if b = a then xs else []) = xs := by
  induction ls with
  | nil => cases mem
  | cons b bs ih =>
    obtain ⟨out, rest⟩ := List.nodup_cons.mp once
    rw [List.flatMap_cons]
    by_cases same : b = a
    · subst same
      have others : (bs.flatMap fun c => if c = b then xs else []) = [] :=
        List.flatMap_eq_nil_iff.mpr fun c hc => if_neg fun e : c = b => out (e ▸ hc)
      rw [if_pos rfl, others, List.append_nil]
    · rw [if_neg same, List.nil_append]
      exact ih rest ((List.mem_cons.mp mem).resolve_left (Ne.symm same))

theorem laneRequests_surveys (s : State) (l m : LaneId) : (laneRequests s m).filter (Request.isSurveyOf l) =
    if m = l then s.requests.filter (Request.isSurveyOf l) else [] := by
  by_cases same : m = l
  · subst same
    have patches : (s.requests.filter (Request.isPatchOf m)).filter (Request.isSurveyOf m) = [] := by
      refine List.filter_eq_nil_iff.mpr fun q mem survey => ?_
      have patch := ((q.isPatchOf_iff m).mp (List.mem_filter.mp mem).2).2
      simp [((q.isSurveyOf_iff m).mp survey).2] at patch
    rw [if_pos rfl, laneRequests, List.filter_append, patches, List.append_nil, List.filter_filter]
    simp
  · rw [if_neg same]
    exact List.filter_eq_nil_iff.mpr fun q mem survey =>
      same ((mem_laneRequests.mp mem).2.symm.trans ((q.isSurveyOf_iff l).mp survey).1)

theorem grantOrder_surveys (s : State) (l : LaneId) :
    (grantOrder s).filter (Request.isSurveyOf l) = s.requests.filter (Request.isSurveyOf l) := by
  rw [grantOrder_eq, List.filter_flatMap]
  simp only [laneRequests_surveys]
  exact flatMap_ite_eq l _ (lanesByClass_nodup s) (mem_lanesByClass s l)

/-- Of one lane's survey requests the first to join is granted. -/
theorem nextGrant_survey_first {l : LaneId} {i : Nat} (granted : nextGrant s = some (.survey l i)) :
    (s.requests.filter (Request.isSurveyOf l)).head? = some (.survey l i) := by
  obtain ⟨before, after, order, none⟩ := nextGrant_split granted
  obtain ⟨-, eligible, -⟩ := nextGrant_eq_some granted
  have others : before.filter (Request.isSurveyOf l) = [] := by
    refine List.filter_eq_nil_iff.mpr fun p mem survey => ?_
    have refused := none p mem
    cases p with
    | patch m o => simp [Request.isSurveyOf] at survey
    | survey m j =>
      obtain rfl : m = l := by simpa [Request.isSurveyOf] using survey
      exact Bool.false_ne_true (refused.symm.trans eligible)
  rw [← grantOrder_surveys, order, List.filter_append, others, List.nil_append, List.filter_cons, if_pos (by simp [Request.isSurveyOf])]
  rfl

/-! ## Which requests are eligible (R161, R179) -/

theorem holdPlace_isSome_iff (x : Lane) : (holdPlace x).isSome = true ↔
    x.state = .running ∧ (x.stage = .boundary ∧ x.holdPending = true ∨ ∃ w, x.stage = .tagged w)
      ∨ x.state = .suspended ∧ x.holdPending = true := by
  unfold holdPlace
  cases hold : x.holdPending <;> split <;> simp_all

theorem holdDue_iff (s : State) (l : LaneId) : holdDue s l = true ↔ surveyRenderOf s l = false
    ∧ ((s.lane l).state = .running ∧ ((s.lane l).stage = .boundary ∧ (s.lane l).holdPending = true ∨ ∃ w, (s.lane l).stage = .tagged w)
      ∨ (s.lane l).state = .suspended ∧ (s.lane l).holdPending = true ∧ (s.lane l).stage ≠ .leftHold) := by
  simp only [holdDue, Bool.and_eq_true, Bool.not_eq_true', decide_eq_true_eq, holdPlace_isSome_iff]
  constructor
  · rintro ⟨⟨running | ⟨suspended, hold⟩, free⟩, stays⟩
    · exact ⟨free, .inl running⟩
    · exact ⟨free, .inr ⟨suspended, hold, stays⟩⟩
  · rintro ⟨free, running | ⟨suspended, hold, stays⟩⟩
    · refine ⟨⟨.inl running, free⟩, fun left => ?_⟩
      rcases running with ⟨-, ⟨stage, -⟩ | ⟨w, stage⟩⟩
      · cases left.symm.trans stage
      · cases left.symm.trans stage
    · exact ⟨⟨.inr ⟨suspended, hold⟩, free⟩, stays⟩

theorem requestEligible_iff (s : State) (q : Request) : requestEligible s q = true ↔
    q.isPatch = true ∨ (s.lane q.owner).state ≠ .held ∧ ¬ holdDue s q.owner = true := by
  cases q <;> simp [requestEligible, Request.isPatch, Request.owner]

end

end Sys2Proof.Machine

/-! SUPPORT. The end of a render and the admission of a frame (R80, R136 to R139, R162). -/

namespace Sys2Proof.Machine

set_option Elab.async false

/-! ## The end of a render (R80, R162) -/

section
variable {s : State} {r : Render}

/-- The rectifier is idle again, and slot `i`, which it read, has moved as R80 gives. -/
def State.renderClosed (s : State) (i : Nat) : State :=
  { s with slots := s.slots.set i (s.slot i).renderEnded, rect := { s.rect with render := none } }

/-- The render of slot `i` has ended; a slot that is FREE or DONE then is a grant point for the head (R62, R80). -/
def State.renderFinished (s : State) (i : Nat) : State :=
  if (s.slot i).renderEnded.state = .free ∨ (s.slot i).renderEnded.state = .done then headArbitrate (s.renderClosed i)
  else s.renderClosed i

theorem renderOver_eq (render : s.rect.render = some r) (here : r.slot < s.slots.length) : renderOver s = s.renderClosed r.slot := by
  simp only [renderOver, render, State.setSlot_eq_set here]
  rfl

theorem renderClosed_slot {i : Nat} (here : i < s.slots.length) : (s.renderClosed i).slot i = (s.slot i).renderEnded := by
  simp [State.renderClosed, State.slot, here]

theorem renderEnd_eq (render : s.rect.render = some r) (here : r.slot < s.slots.length) : renderEnd s = s.renderFinished r.slot := by
  have slot : renderSlot s = some r.slot := by simp only [renderSlot, render, Option.map_some]
  simp only [renderEnd, slot, renderOver_eq render here, slotOpen, renderClosed_slot here, decide_eq_true_eq]
  rfl

/-- A survey render leaves its slot DONE. -/
theorem renderEnd_of_rendering (render : s.rect.render = some r) (here : r.slot < s.slots.length)
    (rendering : (s.slot r.slot).state = .rendering) : renderEnd s = headArbitrate { s with
      slots := s.slots.set r.slot { s.slot r.slot with state := .done, inUse := false }, rect := { s.rect with render := none } } := by
  have done : (s.slot r.slot).renderEnded = { s.slot r.slot with state := .done, inUse := false } := if_pos rendering
  rw [renderEnd_eq render here, State.renderFinished, State.renderClosed, done, if_pos (.inr rfl)]

theorem surveyRendered_eq (render : s.rect.render = some r) (here : r.slot < s.slots.length) : surveyRendered r s =
    (s.renderFinished r.slot).withLane r.lane { (s.renderFinished r.slot).lane r.lane with counters :=
      { ((s.renderFinished r.slot).lane r.lane).counters with
        rendered := min (2 ^ 32 - 1) (((s.renderFinished r.slot).lane r.lane).counters.rendered + 1) } } := by
  rw [surveyRendered, renderEnd_eq render here]
  rfl

theorem stopRender_of_survey (render : s.rect.render = some r) (here : r.slot < s.slots.length) {last n : Int}
    (job : r.job = .survey last n) : stopRender r s = s.renderFinished r.slot := by
  simp only [stopRender, job, renderEnd_eq render here]

/-- The patch render of a CLEARING lane has ended: its step is given up with the totals `t` (R127, R175). -/
def State.patchGivenUp (s u : State) (r : Render) : State := { u with
  doneWrites := u.doneWrites ++ [⟨r.lane, (s.lane r.lane).programAddr, .abandoned, renderResults s.rect.totals, false, .clearing⟩] }

theorem stopRender_of_patch (render : s.rect.render = some r) (here : r.slot < s.slots.length) {o : PatchOps} {j : Nat}
    (job : r.job = .patch o j) : stopRender r s = s.patchGivenUp (s.renderFinished r.slot) r := by
  simp only [stopRender, job, renderEnd_eq render here]
  rfl

/-! ## Rows still being committed (R137, R140) -/

theorem stillAdmitting_of_free (free : r.stopping = true ∨ s.map.commit = none ∨ ∃ o j, r.job = .patch o j) :
    stillAdmitting s r = false := by
  unfold stillAdmitting
  rcases free with stopping | idle | ⟨o, j, job⟩
  · split <;> simp [stopping]
  · split <;> simp [idle]
  · simp [job]

theorem windowEmpty_iff (r : Render) : windowEmpty r = true ↔ ∃ last n, r.job = .survey last n ∧ last < n := by
  unfold windowEmpty
  cases job : r.job with
  | survey last n =>
    rw [decide_eq_true_iff]
    refine ⟨fun past => ⟨last, n, rfl, past⟩, ?_⟩
    rintro ⟨_, _, ⟨⟩, past⟩
    exact past
  | patch o j => simp

/-! ## The end of the column table (R102) -/

theorem exec_columnTableEnd (render : s.rect.render = some r) (none_ : r.columns = none) (free : stillAdmitting s r = false) :
    exec .columnTableEnd s = if r.stopping then .next (stopRender r s) else if windowEmpty r then .next (surveyRendered r s)
      else .next { s with rect := { s.rect with
        render := some { r with columns := some (columnTable r.context.geometry r.context.pose) } } } := by
  rw [show exec .columnTableEnd s = execColumnTableEnd s from rfl]
  simp only [execColumnTableEnd, render, none_, free, Option.isSome_none, Bool.false_eq_true, or_self, if_false]

end

/-! ## Admission (R136 to R139) -/

section
variable {s : State} {l : LaneId} {n0 : Int}

theorem admitFrame_first (first : s.map.range = none) :
    admitFrame l n0 s = endAdmission l { s with map := { s.map with range := some ⟨n0, n0 - 1⟩ } } := by
  simp only [admitFrame, first]

theorem admitFrame_of_starved {r : RowRange} (range : s.map.range = some r) (poor : remainingCapacity s.map < (n0 - r.front).toNat) :
    admitFrame l n0 s = skipFrame l s := by
  simp only [admitFrame, range, if_pos poor]

theorem admitFrame_of_nothing {r : RowRange} (range : s.map.range = some r) (nothing : n0 ≤ r.front) :
    admitFrame l n0 s = endAdmission l { s with map := { s.map with starving := false } } := by
  have rich : ¬ remainingCapacity s.map < (n0 - r.front).toNat := by omega
  simp only [admitFrame, range, if_neg rich, if_neg (Int.not_lt.2 nothing)]

theorem admitFrame_of_rows {r : RowRange} {k : Sink} {ks : List Sink} (range : s.map.range = some r) (rows : r.front < n0)
    (rich : (n0 - r.front).toNat ≤ remainingCapacity s.map) (sinks : s.map.sinks = k :: ks) :
    admitFrame l n0 s = issueCommit k r.front (n0 - 1) { s with map := { s.map with starving := false } } := by
  simp only [admitFrame, range, if_neg (Nat.not_lt.2 rich), if_pos rows, sinks]

/-- A skipped frame: its slot is DONE, its lane counts it, and the head is granted (R62, R80, R138). -/
def State.frameSkipped (s : State) (l : LaneId) (i : Nat) : State :=
  headArbitrate (State.withLane { s with
    slots := s.slots.set i { s.slot i with state := .done, inUse := false }, rect := { s.rect with render := none } } l
      { s.lane l with counters := { (s.lane l).counters with starved := min (2 ^ 32 - 1) ((s.lane l).counters.starved + 1) } })

theorem frameSkipped_map (s : State) (l : LaneId) (i : Nat) : (s.frameSkipped l i).map = s.map := by
  simp [State.frameSkipped, State.withLane]

theorem skipFrame_eq {r : Render} (render : s.rect.render = some r) (here : r.slot < s.slots.length)
    (rendering : (s.slot r.slot).state = .rendering) : skipFrame l s = if s.map.starving then s.frameSkipped l r.slot
      else raiseIntermediate l { starved := true } { s.frameSkipped l r.slot with
        map := { (s.frameSkipped l r.slot).map with starving := true } } := by
  have ended : renderEnd (s.bump l fun c => { c with starved := sat32 c.starved 1 }) = s.frameSkipped l r.slot :=
    renderEnd_of_rendering (s := s.bump l _) render here rendering
  simp only [skipFrame, ended, frameSkipped_map]

end

end Sys2Proof.Machine

/-! SUPPORT. Render grants and the end of the column table (R98, R102, R161, R162), and the statement about them. -/

namespace Sys2Proof.Machine

set_option Elab.async false

/-! ## A grant (R98, R161, R162) -/

section
variable {s : State} {l : LaneId} {i : Nat} {e : ExposureRecord}

theorem boundSlot_eq_some_iff {t : Tag} : boundSlot s l t = some i ↔ i < s.slots.length ∧ (s.slot i).binding = some (l, t)
    ∧ ∀ j, j < i → (s.slot j).binding ≠ some (l, t) := by
  constructor
  · intro bound
    rw [boundSlot, firstIndex_eq_findIdx?, List.findIdx?_eq_some_iff_getElem] at bound
    obtain ⟨here, held, before⟩ := bound
    refine ⟨here, by simpa [State.slot, here] using held, fun j lt => ?_⟩
    simpa [State.slot, Nat.lt_trans lt here] using before j lt
  · rintro ⟨here, held, before⟩
    exact boundSlot_eq_some here held fun j lt h => before j lt h.2

/-- A request is taken from the list, and the grant point of a lane's leaving HELD is past (R161, R162). -/
def State.granted (s : State) (stores : Stores) (q : Request) : State := { s with
  mem := s.mem.afterStores stores, requests := s.requests.filter fun p => decide (p ≠ q), lanes := s.lanes.map Lane.grantPast }

/-- A render on slot `i` for lane `l`, with what it takes at its grant (R98). -/
def State.renderOf (s : State) (job : RenderJob) (l : LaneId) (i : Nat) (e : ExposureRecord) : Render := {
  job := job, lane := l, slot := i, context := (s.lane l).context, pos := e.pos, e := e.e, seq := e.seq
  derated := e.derated, slip := e.slip, columns := none, writing := none, stopping := false }

theorem granted_lane (stores : Stores) (q : Request) : (s.granted stores q).lane l = (s.lane l).grantPast := Four.get_map ..

theorem newRender_granted (stores : Stores) (q : Request) (job : RenderJob) :
    newRender (s.granted stores q) job l i e = s.renderOf job l i e := by
  rw [newRender, granted_lane]
  rfl

theorem exec_renderGrant_patch {o : PatchOps} (granted : nextGrant s = some (.patch l o)) (bound : boundSlot s l o.tag = some i)
    (record : (s.slot i).record = some e) (stores : Stores) : exec (.renderGrant stores) s = .next { s.granted stores (.patch l o) with
      slots := s.slots.set i { s.slot i with inUse := true }
      rect := { s.rect with render := some (s.renderOf (.patch o 0) l i e), totals := {} } } := by
  have here := (boundSlot_eq_some_iff.mp bound).1
  have starts : exec (.renderGrant stores) s = .next (startPatchRender l o (s.granted stores (.patch l o))) := by
    rw [show exec (.renderGrant stores) s = execRenderGrant stores s from rfl]
    simp only [execRenderGrant, granted]
    rfl
  rw [starts]
  simp only [startPatchRender, show boundSlot (s.granted stores (.patch l o)) l o.tag = some i from bound,
    show ((s.granted stores (.patch l o)).slot i).record = some e from record, newRender_granted]
  rw [State.setSlot_eq_set (s := s.granted stores (.patch l o)) here]
  rfl

/-- A survey render as it starts, before the map has admitted its frame (R80, R98, R162). -/
def State.surveyStarted (s : State) (stores : Stores) (l : LaneId) (i : Nat) (e : ExposureRecord) : State :=
  { s.granted stores (.survey l i) with
    slots := s.slots.set i { s.slot i with state := .rendering, inUse := true }
    rect := { s.rect with render := some (s.renderOf (.survey (windowLast s.map e.pos) (windowFirst s.map e.pos)) l i e) } }

theorem exec_renderGrant_survey (granted : nextGrant s = some (.survey l i)) (record : (s.slot i).record = some e)
    (here : i < s.slots.length) (stores : Stores) :
    exec (.renderGrant stores) s = .next (admitFrame l (windowFirst s.map e.pos) (s.surveyStarted stores l i e)) := by
  have starts : exec (.renderGrant stores) s = .next (startSurveyRender l i (s.granted stores (.survey l i))) := by
    rw [show exec (.renderGrant stores) s = execRenderGrant stores s from rfl]
    simp only [execRenderGrant, granted]
    rfl
  rw [starts]
  simp only [startSurveyRender, show ((s.granted stores (.survey l i)).slot i).record = some e from record, newRender_granted]
  rw [State.setSlot_eq_set (s := s.granted stores (.survey l i)) here]
  rfl

theorem surveyStarted_slot (stores : Stores) (here : i < s.slots.length) :
    (s.surveyStarted stores l i e).slot i = { s.slot i with state := .rendering, inUse := true } := by
  simp [State.surveyStarted, State.slot, here]

theorem frameSkipped_surveyStarted (stores : Stores) (here : i < s.slots.length) : (s.surveyStarted stores l i e).frameSkipped l i =
    headArbitrate (State.withLane { s.granted stores (.survey l i) with
      slots := s.slots.set i { s.slot i with state := .done, inUse := false }, rect := { s.rect with render := none } } l
        { (s.lane l).grantPast with counters :=
          { (s.lane l).counters with starved := min (2 ^ 32 - 1) ((s.lane l).counters.starved + 1) } }) := by
  have lane : (s.surveyStarted stores l i e).lane l = (s.lane l).grantPast := granted_lane stores (.survey l i)
  have slots : (s.surveyStarted stores l i e).slots.set i
      { s.slot i with state := .done, inUse := false } = s.slots.set i { s.slot i with state := .done, inUse := false } :=
    List.set_set ..
  rw [State.frameSkipped, surveyStarted_slot stores here, slots, lane]
  rfl

end

/-- Settles O52. -/
theorem rendersStart : Obligations.RendersStart := by
  intro s stores owner isPatch cls served rest render now
  have owner_eq (q : Request) : q.owner = owner q := by cases q <;> rfl
  have isPatch_eq (q : Request) : q.isPatch = isPatch q := by cases q <;> rfl
  refine ⟨nextGrant_isNone_of_busy, nextGrant_isSome, fun l t i => boundSlot_eq_some_iff, fun q granted => ?_,
    fun l o i e granted bound record => exec_renderGrant_patch granted bound record stores, fun l i e granted record here => ?_,
    fun p _ => ?_, fun r running building => ?_⟩
  · obtain ⟨asked, eligible, -⟩ := nextGrant_eq_some granted
    refine ⟨asked, eligible, fun p mem can => ?_, fun l i survey => ?_⟩
    · have before := nextGrant_before granted mem can
      rw [GrantedBefore, owner_eq, owner_eq, isPatch_eq, isPatch_eq] at before
      exact before
    · subst survey
      exact nextGrant_survey_first granted
  · intro x n0 n1 room v fed first skipped hold able
    have starts := exec_renderGrant_survey granted record here stores
    have started : s.surveyStarted stores l i e = v := rfl
    rw [started] at starts
    have lane : v.lane l = x := granted_lane stores (.survey l i)
    have rendering : v.rect.render = some (render (.survey n1 n0) l i e) := rfl
    have gives {t : State} (h : admitFrame l n0 v = t) : now t := starts.trans (congrArg _ h)
    have admission (u : State) (admits : admitFrame l n0 v = endAdmission l u) (same : u.lane l = v.lane l) (rect : u.rect = v.rect)
        (used : u.map.holdRowUsed = s.map.holdRowUsed) (trigger : u.trigger = s.trigger) (ending : u.map.ending = s.map.ending) :
        let forced : State := { u with map := { u.map with holdRowUsed := true } }
        (¬ hold → now u) ∧ (hold → able → now (forced.withLane l { x with holdPending := true })) ∧ (hold → ¬ able → now forced) := by
      have due : HoldDue u l n1 ↔ hold := by unfold HoldDue; rw [same, used, lane]
      have can : CanHold u l ↔ able := by unfold CanHold; rw [same, trigger, ending, lane]
      have ends : endAdmission l u = forcedHold l n1 u := endAdmission_of_survey (by rw [rect]) rfl
      refine ⟨fun early => gives ?_, fun late ready => gives ?_, fun late unready => gives ?_⟩
      · rw [admits, ends, forcedHold_of_not_due (mt due.mp early)]
      · rw [admits, ends, forcedHold_of_due (due.mpr late) (can.mpr ready), same, lane]
      · rw [admits, ends, forcedHold_of_unable (due.mpr late) (mt can.mp unready)]
    have firstFrame (start : s.map.range = none) := admission (first s.map.holdRowUsed) (admitFrame_first (s := v) start) rfl rfl rfl rfl rfl
    refine ⟨fun start => (firstFrame start).1, fun start => (firstFrame start).2.1, fun start => (firstFrame start).2.2,
      fun range start => ?_⟩
    · have noRows (nothing : n0 ≤ range.front) := admission fed (admitFrame_of_nothing (s := v) start nothing) rfl rfl rfl rfl rfl
      refine ⟨fun nothing => (noRows nothing).1, fun nothing => (noRows nothing).2.1, fun nothing => (noRows nothing).2.2,
        fun k ks rows rich sinks => gives (admitFrame_of_rows (s := v) start rows rich sinks), fun poor => ?_⟩
      · have slot : (v.slot i).state = .rendering := congrArg Slot.state (surveyStarted_slot stores here)
        have inside : i < v.slots.length := by simpa [v] using here
        have skips : v.frameSkipped l i = skipped := frameSkipped_surveyStarted stores here
        have skipping := skipFrame_eq (s := v) (l := l) rendering inside slot
        rw [show (render (.survey n1 n0) l i e).slot = i from rfl, skips] at skipping
        refine ⟨fun starving => ?_, fun fed_ => ?_⟩
        · exact gives ((admitFrame_of_starved (s := v) start poor).trans (skipping.trans (if_pos starving)))
        · exact gives ((admitFrame_of_starved (s := v) start poor).trans (skipping.trans (if_neg (by simpa using fed_))))
  · intro y due
    have place : holdDue s p.owner = true ↔ due := by rw [holdDue_iff, owner_eq]
    rw [requestEligible_iff, place, owner_eq, isPatch_eq]
  · intro y freed closed finished x t empty table
    refine ⟨fun going free rows => ?_, fun here => ⟨fun going free none_ => ?_, fun stopping survey => ?_, fun stopping patch => ?_⟩⟩
    · rw [exec_columnTableEnd running building (stillAdmitting_of_free (.inr free)), if_neg (by simp [going]),
        if_neg (mt (windowEmpty_iff r).mp rows)]
      rfl
    · rw [exec_columnTableEnd running building (stillAdmitting_of_free (.inr (.inl free))), if_neg (by simp [going]),
        if_pos ((windowEmpty_iff r).mpr none_), surveyRendered_eq running here]
      rfl
    · obtain ⟨last, n, job⟩ := survey
      rw [exec_columnTableEnd running building (stillAdmitting_of_free (.inl stopping)), if_pos stopping,
        stopRender_of_survey running here job]
      rfl
    · obtain ⟨o, j, job⟩ := patch
      rw [exec_columnTableEnd running building (stillAdmitting_of_free (.inl stopping)), if_pos stopping,
        stopRender_of_patch running here job]
      rfl

end Sys2Proof.Machine

/-! SUPPORT. Finished rows, source faults and patch writes (R116, R126, R140, R171 to R175), and the statement about them. -/

namespace Sys2Proof.Machine

set_option Elab.async false

/-! ## A lane that does not wait for the head, while the head is granted -/

section
variable {s : State} {l : LaneId}

theorem withholdHeld_stage (m : LaneId) : ((withholdHeld m s).lane l).stage = (s.lane l).stage := by
  rw [withholdHeld_eq]
  by_cases same : l = m
  · subst same
    rw [State.withLane_lane_same]
  · rw [State.withLane_lane_of_ne _ _ same]
    rfl

theorem fireExpose_stage (apart : ∀ w, (s.lane l).stage ≠ .exposeWait w) (m : LaneId) :
    ((fireExpose m s).lane l).stage = (s.lane l).stage := by
  unfold fireExpose
  split
  · next w stage =>
    have other : l ≠ m := fun same => apart w (same ▸ stage)
    rw [State.setLane_eq_withLane, State.withLane_lane_of_ne _ _ other, State.lane, State.lane, (strobeStart_frame ..).2.1]
  · rfl

theorem serveWaiters_stage (ws : List Waiter) (apart : ∀ w, (s.lane l).stage ≠ .exposeWait w) :
    ((serveWaiters ws s).lane l).stage = (s.lane l).stage := by
  induction ws generalizing s with
  | nil => rfl
  | cons a ws ih =>
    cases a with
    | expose m => exact fireExpose_stage apart m
    | survey m =>
      unfold serveWaiters
      split
      · exact ih apart
      · split
        · exact (ih (by rw [withholdHeld_stage]; exact apart)).trans (withholdHeld_stage m)
        · rw [fireSurvey_eq]
          exact congrArg (fun q : Four Lane => (q.get l).stage) (strobeStart_frame ..).2.1

theorem headArbitrate_stage (apart : ∀ w, (s.lane l).stage ≠ .exposeWait w) :
    ((headArbitrate s).lane l).stage = (s.lane l).stage := by
  unfold headArbitrate
  split
  · exact serveWaiters_stage _ apart
  · rfl

theorem renderFinished_stage (i : Nat) (apart : ∀ w, (s.lane l).stage ≠ .exposeWait w) :
    ((s.renderFinished i).lane l).stage = (s.lane l).stage := by
  unfold State.renderFinished
  split
  · exact headArbitrate_stage (s := s.renderClosed i) apart
  · rfl

theorem renderFinished_totals (i : Nat) : (s.renderFinished i).rect.totals = s.rect.totals := by
  unfold State.renderFinished
  split
  · simp [State.renderClosed]
  · rfl

end

/-! ## Rows handed on (R126, R127, R140, R171) -/

section
variable {s : State} {r : Render}

theorem rowColumns_of_free {cols : List Column} (columns : r.columns = some cols) (reading : r.writing = none)
    (free : r.stopping = true ∨ s.map.commit = none ∨ ∃ o j, r.job = .patch o j) : rowColumns s r = some cols := by
  simp [rowColumns, reading, stillAdmitting_of_free free, columns]

theorem surveyRenderOf_of_render {last n : Int} (render : s.rect.render = some r) (job : r.job = .survey last n) :
    surveyRenderOf s r.lane = true ↔ s.map.lane = some r.lane ∧ r.stopping = false := by
  simp [surveyRenderOf, render, job, State.surveyOpen_iff]

/-- The wall map with a finished survey row offered to it, when the row is of its survey (R140, R143). -/
def State.offered (s : State) (r : Render) (n : Int) (counts : RowCounts) (codes : List Byte) : State :=
  if s.map.lane = some r.lane then takeCandidate (rowRecord s.map r n counts) codes s else s

theorem offered_rect (n : Int) (counts : RowCounts) (codes : List Byte) : (s.offered r n counts codes).rect = s.rect := by
  unfold State.offered
  split <;> simp

theorem offered_slots (n : Int) (counts : RowCounts) (codes : List Byte) : (s.offered r n counts codes).slots = s.slots := by
  unfold State.offered
  split <;> simp

section
variable {last n : Int} (counts : RowCounts) (codes : List Byte) (render : s.rect.render = some r) (job : r.job = .survey last n)
include render job

theorem handSurveyRow_of_stopping (stopping : r.stopping = true) :
    handSurveyRow r last n counts codes s = renderEnd s := by
  have dropped : ¬ surveyRenderOf s r.lane = true := fun h => by
    simp [((surveyRenderOf_of_render render job).mp h).2] at stopping
  simp only [handSurveyRow, if_neg dropped, if_pos stopping]

theorem handSurveyRow_of_going (going : r.stopping = false) : handSurveyRow r last n counts codes s =
    if n < last then { s.offered r n counts codes with rect := { s.rect with render := some { r with job := .survey last (n + 1) } } }
    else surveyRendered r (s.offered r n counts codes) := by
  have taken : (surveyRenderOf s r.lane = true) = (s.map.lane = some r.lane) :=
    propext ((surveyRenderOf_of_render render job).trans (and_iff_left going))
  have offered : (if surveyRenderOf s r.lane = true then takeCandidate (rowRecord s.map r n counts) codes s else s)
      = s.offered r n counts codes := ite_congr taken (fun _ => rfl) fun _ => rfl
  simp only [handSurveyRow, offered, going, Bool.false_eq_true, if_false]
  rw [← offered_rect (s := s) (r := r) n counts codes]

end

/-- The rectifier with a row's codes and counts, the memory having taken the stores since its first read (R104, R126). -/
def State.rowDone (s : State) (stores during : Stores) (codes : List Byte) (counts : RowCounts) : State := { s with
  mem := (s.mem.afterStores stores).afterStores during, rect := { s.rect with scratch := codes, counts := counts } }

/-- The pixels of a row, each read from the memory of its moment (R104, R115). -/
def rowRead (s : State) (r : Render) (cols : List Column) (stores during : Stores) (seen : List Nat) : List Pixel :=
  rowPixels r cols fun j a b =>
    rawPixel ((s.mem.afterStores stores).afterStores (during.take (seen.getD j 0))) s.intake r.slot a b

theorem exec_rowFinished {cols : List Column} (render : s.rect.render = some r) (columns : rowColumns s r = some cols)
    (stores during : Stores) (seen : List Nat) : exec (.rowFinished ⟨stores, during, seen⟩) s =
      .next (finishRow r cols during seen (s.withStores stores)) := by
  rw [show exec (.rowFinished ⟨stores, during, seen⟩) s = execRowFinished ⟨stores, during, seen⟩ s from rfl]
  simp only [execRowFinished, render, columns]

theorem finishRow_patch {o : PatchOps} {j : Nat} (job : r.job = .patch o j) (cols : List Column) (stores during : Stores)
    (seen : List Nat) :
    let px := rowRead s r cols stores during seen
    let codes := px.map (Pixel.code r.context.geometry)
    finishRow r cols during seen (s.withStores stores)
      = handPatchRow r o j (countPixels px) codes (s.rowDone stores during codes (countPixels px)) := by
  simp only [finishRow, job]
  rfl

theorem finishRow_survey {last n : Int} (job : r.job = .survey last n) (cols : List Column) (stores during : Stores)
    (seen : List Nat) :
    let px := rowRead s r cols stores during seen
    let codes := px.map (Pixel.code r.context.geometry)
    finishRow r cols during seen (s.withStores stores)
      = handSurveyRow r last n (countPixels px) codes (s.rowDone stores during codes (countPixels px)) := by
  simp only [finishRow, job]
  rfl

/-! ## Ends of a patch render (R172 to R175) -/

theorem finishPatch_renderFinished {w : StepWord} (wait : (s.lane r.lane).stage = .renderWait w) (i : Nat) (code : DoneCode)
    (after : After) : finishPatch r.lane code after (s.renderFinished i)
      = (s.renderFinished i).ended r.lane w code (renderResults s.rect.totals) after := by
  have stage : ((s.renderFinished i).lane r.lane).stage = .renderWait w :=
    (renderFinished_stage i (by simp [wait])).trans wait
  simp only [finishPatch, stage, endStep_eq_ended, renderFinished_totals]

theorem exec_sourceFault {cols : List Column} (render : s.rect.render = some r) (columns : rowColumns s r = some cols)
    (reads : rowReadsFrame r cols = true) : exec .sourceFault s =
      if r.stopping then .next (stopRender r s) else .next (sourceFaultFor r (renderEnd s)) := by
  rw [show exec .sourceFault s = execSourceFault s from rfl]
  simp only [execSourceFault, render, columns, reads, if_true]

theorem exec_patchRowWriteEnd_landed {o : PatchOps} {j : Nat} {a : Word} {codes : List Byte} (render : s.rect.render = some r)
    (job : r.job = .patch o j) (writing : r.writing = some (a, codes)) :
    exec (.patchRowWriteEnd .landed) s = .next (patchRowLanded r o j (s.store a codes)) := by
  rw [show exec (.patchRowWriteEnd .landed) s = execPatchRowWriteEnd .landed s from rfl]
  simp only [execPatchRowWriteEnd, render, job, writing]

theorem exec_patchRowWriteEnd_faulted {o : PatchOps} {j : Nat} {a : Word} {codes : List Byte} (render : s.rect.render = some r)
    (job : r.job = .patch o j) (writing : r.writing = some (a, codes)) (left : Stores) :
    exec (.patchRowWriteEnd (.faulted left)) s = .next (patchRowFaulted r (s.withStores left)) := by
  rw [show exec (.patchRowWriteEnd (.faulted left)) s = execPatchRowWriteEnd (.faulted left) s from rfl]
  simp only [execPatchRowWriteEnd, render, job, writing]

end

/-- Settles O53. -/
theorem rowsFinished : Obligations.RowsFinished := by
  intro s r render g x results y freed finished given free
  have finished_eq (u : State) (slots : u.slots = s.slots) : u.renderFinished r.slot = finished u := by
    have slot : u.slot r.slot = s.slot r.slot := by rw [State.slot, slots]; rfl
    unfold State.renderFinished State.renderClosed
    rw [slot]
    rfl
  have given_eq (u : State) (slots : u.slots = s.slots) (lane : u.lane r.lane = s.lane r.lane) (totals : u.rect.totals = s.rect.totals) :
      u.patchGivenUp (u.renderFinished r.slot) r = given u := by
    rw [State.patchGivenUp, finished_eq u slots, lane, totals]
    rfl
  refine ⟨?_, fun cols columns reading still reads here => ?_, fun o j a codes job writing => ?_⟩
  · intro cols stores during seen columns reading still m raw px codes counts v now
    refine ⟨fun o j job => (exec_rowFinished render (rowColumns_of_free columns reading still) stores during seen).trans
      (congrArg _ (finishRow_patch job ..)), fun last n job => ?_⟩
    intro z rr u
    have hands : exec (.rowFinished ⟨stores, during, seen⟩) s = .next (handSurveyRow r last n counts codes v) := by
      rw [exec_rowFinished render (rowColumns_of_free columns reading still), finishRow_survey job]
      rfl
    have offered : v.offered r n counts codes = u := by
      have record : rowRecord v.map r n counts = rr := by simp only [rowRecord, rowDepth, job]; rfl
      exact ite_congr rfl (fun _ => congrArg (takeCandidate · codes v) record) fun _ => rfl
    have render' : v.rect.render = some r := render
    have slots : u.slots = s.slots := offered ▸ offered_slots (s := v) n counts codes
    refine ⟨fun going more => ?_, fun going over_ here => ?_, fun stopping here => ?_⟩
    · refine hands.trans (congrArg _ ?_)
      rw [handSurveyRow_of_going counts codes render' job going, if_pos more, offered]
    · refine hands.trans (congrArg _ ?_)
      have running : u.rect.render = some r := by rw [← offered, offered_rect]; exact render
      rw [handSurveyRow_of_going counts codes render' job going, if_neg (Int.not_lt.2 over_), offered,
        surveyRendered_eq running (by rw [slots]; exact here), finished_eq u slots]
    · refine hands.trans (congrArg _ ?_)
      rw [handSurveyRow_of_stopping counts codes render' job stopping, renderEnd_eq render' here, finished_eq v rfl]
  · have faults := exec_sourceFault render (rowColumns_of_free columns reading still) reads
    refine ⟨fun last n job stopping => ?_, fun o j job stopping => ?_, fun last n job going => ?_, fun o j step job going wait => ?_⟩
    · rw [faults, if_pos stopping, stopRender_of_survey render here job, finished_eq s rfl]
    · rw [faults, if_pos stopping, stopRender_of_patch render here job, given_eq s rfl rfl rfl]
    · rw [faults, if_neg (by simp [going]), renderEnd_eq render here, finished_eq s rfl]
      simp only [sourceFaultFor, job, going, Bool.false_eq_true, if_false]
      rfl
    · rw [faults, if_neg (by simp [going]), renderEnd_eq render here]
      simp only [sourceFaultFor, job]
      rw [finishPatch_renderFinished wait, finished_eq s rfl]
      rfl
  · intro written
    refine ⟨fun here stopping => ⟨?_, fun left => ?_⟩, fun going more => ?_, fun w going here wait => ⟨fun last => ?_, fun left => ?_⟩⟩
    · rw [exec_patchRowWriteEnd_landed render job writing, patchRowLanded, if_pos stopping,
        stopRender_of_patch (s := s.store a codes) render here job, given_eq (s.store a codes) rfl rfl rfl]
      rfl
    · rw [exec_patchRowWriteEnd_faulted render job writing, patchRowFaulted, if_pos stopping,
        stopRender_of_patch (s := s.withStores left) render here job, given_eq (s.withStores left) rfl rfl rfl]
      rfl
    · rw [exec_patchRowWriteEnd_landed render job writing, patchRowLanded, if_neg (by simp [going]), if_pos more]
      rfl
    · rw [exec_patchRowWriteEnd_landed render job writing, patchRowLanded, if_neg (by simp [going]), if_neg (Nat.not_lt.2 last),
        renderEnd_eq (s := s.store a codes) render here, finishPatch_renderFinished (s := s.store a codes) wait,
        finished_eq (s.store a codes) rfl]
      rfl
    · rw [exec_patchRowWriteEnd_faulted render job writing, patchRowFaulted, if_neg (by simp [going]),
        renderEnd_eq (s := s.withStores left) render here, finishPatch_renderFinished (s := s.withStores left) wait,
        finished_eq (s.withStores left) rfl]
      rfl

end Sys2Proof.Machine

/-! SUPPORT. Square roots, sines, columns, lens and raw pixels (R99 to R103, R107, R108, R113 to R118). -/

namespace Sys2Proof.Machine

set_option Elab.async false

/-! ## Floor square roots (R99) -/

section

/-- Bit by bit the root is boxed in: its square does not exceed `x`, and that of the next candidate does. -/
theorem isqrtFrom_bounds {x : Nat} (k r : Nat) (low : r * r ≤ x) (high : x < (r + 2 ^ k) * (r + 2 ^ k)) :
    isqrtFrom x k r * isqrtFrom x k r ≤ x ∧ x < (isqrtFrom x k r + 1) * (isqrtFrom x k r + 1) := by
  induction k generalizing r with
  | zero => exact ⟨low, high⟩
  | succ k ih =>
    rw [isqrtFrom]
    split
    · next fits =>
      refine ih _ fits ?_
      rwa [Nat.add_assoc, ← Nat.two_mul, ← Nat.pow_succ']
    · next past => exact ih _ low (Nat.lt_of_not_le past)

theorem isqrt_bounds {x : Nat} (h : x < 2 ^ 64) : isqrt x * isqrt x ≤ x ∧ x < (isqrt x + 1) * (isqrt x + 1) :=
  isqrtFrom_bounds 32 0 (Nat.zero_le x) (by simpa using h)

theorem isqrt_toNat_bounds {x : Int} (nonneg : 0 ≤ x) (h : x < 2 ^ 64) :
    (isqrt x.toNat : Int) * isqrt x.toNat ≤ x ∧ x < ((isqrt x.toNat : Int) + 1) * (isqrt x.toNat + 1) := by
  obtain ⟨low, high⟩ := isqrt_bounds (x := x.toNat) (by omega)
  have same : (x.toNat : Int) = x := Int.toNat_of_nonneg nonneg
  constructor
  · rw [← same] at *
    exact_mod_cast low
  · rw [← same]
    exact_mod_cast high

end

/-! ## The sine table (R100) -/

section

theorem sine_of_first {n : Nat} (h : n ≤ 1024) : sine n = sineQuarter n := by
  rw [sine, Nat.mod_eq_of_lt (by omega), if_pos h]

theorem sine_of_second {n : Nat} (h : 1024 ≤ n) (h' : n ≤ 2048) : sine n = sineQuarter (2048 - n) := by
  rcases Nat.eq_or_lt_of_le h with rfl | past
  · exact sine_of_first (Nat.le_refl 1024)
  · rw [sine, Nat.mod_eq_of_lt (by omega), if_neg (by omega), if_pos h']

theorem sineQuarter_zero : sineQuarter 0 = 0 := by decide

theorem sine_of_third {n : Nat} (h : 2048 ≤ n) (h' : n ≤ 3072) : sine n = -sineQuarter (n - 2048) := by
  rcases Nat.eq_or_lt_of_le h with rfl | past
  · rw [sine_of_second (by omega) (Nat.le_refl 2048), Nat.sub_self, sineQuarter_zero, Int.neg_zero]
  · rw [sine, Nat.mod_eq_of_lt (by omega), if_neg (by omega), if_neg (by omega), if_pos h']

theorem sine_of_fourth {n : Nat} (h : 3072 ≤ n) (h' : n < 4096) : sine n = -sineQuarter (4096 - n) := by
  rcases Nat.eq_or_lt_of_le h with rfl | past
  · exact sine_of_third (by omega) (Nat.le_refl 3072)
  · rw [sine, Nat.mod_eq_of_lt h', if_neg (by omega), if_neg (by omega), if_neg (by omega)]

theorem sine_mirror {n : Nat} (h : n ≤ 2048) : sine (2048 - n) = sine n := by
  rcases Nat.le_total n 1024 with first | second
  · rw [sine_of_first first, sine_of_second (by omega) (by omega), Nat.sub_sub_self h]
  · rw [sine_of_second second h, sine_of_first (by omega)]

theorem sine_neg {n : Nat} (h : 1 ≤ n) (h' : n ≤ 4095) : sine (4096 - n) = -sine n := by
  rcases Nat.le_total n 2048 with upper | lower
  · rcases Nat.le_total n 1024 with first | second
    · rw [sine_of_first first, sine_of_fourth (by omega) (by omega), Nat.sub_sub_self (by omega)]
    · rw [sine_of_second second upper, sine_of_third (by omega) (by omega), show 4096 - n - 2048 = 2048 - n by omega]
  · rcases Nat.le_total n 3072 with third | fourth
    · rw [sine_of_third lower third, sine_of_second (by omega) (by omega), show 2048 - (4096 - n) = n - 2048 by omega, Int.neg_neg]
    · rw [sine_of_fourth fourth (by omega), sine_of_first (by omega), Int.neg_neg]

end

/-! ## Columns and the lens (R101 to R103, R107, R108) -/

section

theorem columnAngle_cast (width roll k : Nat) : (columnAngle width roll k : Int) = ((k * (4096 / width) : Nat) - (roll : Int)) % 4096 :=
  Int.toNat_of_nonneg (Int.emod_nonneg _ (by omega))

theorem columnAngle_lt (width roll k : Nat) : columnAngle width roll k < 4096 := by
  have bound := Int.emod_lt_of_pos ((k * (4096 / width) : Nat) - (roll : Int)) (show (0 : Int) < 4096 by omega)
  rw [← columnAngle_cast] at bound
  omega

theorem lensRatio_cast {rho z : Int} (rho0 : 0 ≤ rho) (z1 : 1 ≤ z) : (lensRatio rho z : Int) = rho * 65536 / (rho + z) :=
  Int.toNat_of_nonneg (Int.ediv_nonneg (by omega) (by omega))

theorem lensRatio_lt {rho z : Int} (rho0 : 0 ≤ rho) (z1 : 1 ≤ z) : lensRatio rho z < 65536 := by
  have bound : rho * 65536 / (rho + z) < 65536 := Int.ediv_lt_of_lt_mul (by omega) (by omega)
  rw [← lensRatio_cast rho0 z1] at bound
  omega

theorem interpolate_bounds (a b : Nat) {f : Nat} (h : f < 256) :
    ((min a b : Nat) : Int) ≤ interpolate a b f ∧ interpolate a b f ≤ (max a b : Nat) := by
  rw [interpolate]
  rcases Nat.le_total a b with up | down
  · obtain ⟨d, rfl⟩ := Nat.exists_eq_add_of_le up
    have share : d * f ≤ d * 255 := Nat.mul_le_mul_left d (by omega)
    rw [Nat.min_eq_left up, Nat.max_eq_right up]
    push_cast
    have gap : ((a : Int) + d - a) * f = (d * f : Nat) := by rw [show (a : Int) + d - a = d by omega, Int.natCast_mul]
    rw [gap]
    omega
  · obtain ⟨d, rfl⟩ := Nat.exists_eq_add_of_le down
    have share : d * f ≤ d * 255 := Nat.mul_le_mul_left d (by omega)
    rw [Nat.min_eq_right down, Nat.max_eq_left down]
    push_cast
    have gap : ((b : Int) - (b + d)) * f = -(d * f : Nat) := by
      rw [show (b : Int) - (b + d) = -d by omega, Int.neg_mul, Int.natCast_mul]
    rw [gap]
    omega

end

/-! ## The neighbourhood and its raw pixels (R113 to R118) -/

section

theorem inField_iff (xs ys : Int) (ws hs : Nat) : inField (neighbourhood xs ys) ws hs = true ↔
    (0 ≤ xs ∧ xs < 16 * ((ws : Int) - 1)) ∧ 0 ≤ ys ∧ ys < 16 * ((hs : Int) - 1) := by
  rw [inField, decide_eq_true_iff]
  simp only [neighbourhood]
  omega

theorem fromLe_read_two (m : Memory) (a : Word) :
    fromLe (m.read a 2) = (m.byteAt a.toNat).toNat + 256 * (m.byteAt (a + 1).toNat).toNat := by
  have next : (a + 1).toNat = (a.toNat + 1) % 2 ^ 32 := by simp
  have here : a.toNat % 4294967296 = a.toNat := Nat.mod_eq_of_lt a.isLt
  rw [next]
  simp [Memory.read, List.range_succ, fromLe, here]

theorem rawPixel_eq (m : Memory) (n : Intake) (i x y : Nat) :
    let a := slotAddr n i + BitVec.ofNat 32 (64 + 2 * n.ws * y + 2 * x)
    rawPixel m n i x y = ((m.byteAt a.toNat).toNat + 256 * (m.byteAt (a + 1).toNat).toNat) % 4096 := by
  intro a
  have place : lineAddr n i y + BitVec.ofNat 32 (2 * x) = a := by
    rw [lineAddr, BitVec.add_assoc, ← BitVec.ofNat_add]
  rw [rawPixel, place, fromLe_read_two]

theorem glareMember_iff (set : List Byte) (v : Nat) :
    glareMember set v = true ↔ (set.getD (v / 8) 0).toNat / 2 ^ (v % 8) % 2 = 1 := by
  rw [glareMember, BitVec.getLsbD, Nat.testBit_eq_decide_div_mod_eq, decide_eq_true_iff]

/-- A value between two numbers by sixteenths does not leave their range. -/
theorem sixteenths_bounds {a b top f : Int} (a0 : 0 ≤ a) (a1 : a ≤ top) (b0 : 0 ≤ b) (b1 : b ≤ top) (f0 : 0 ≤ f) (f1 : f ≤ 16) :
    0 ≤ a * (16 - f) + b * f ∧ a * (16 - f) + b * f ≤ 16 * top := by
  constructor
  · exact Int.add_nonneg (Int.mul_nonneg a0 (by omega)) (Int.mul_nonneg b0 f0)
  · calc a * (16 - f) + b * f ≤ top * (16 - f) + top * f :=
          Int.add_le_add (Int.mul_le_mul_of_nonneg_right a1 (by omega)) (Int.mul_le_mul_of_nonneg_right b1 f0)
      _ = 16 * top := by rw [← Int.mul_add, Int.sub_add_cancel, Int.mul_comm]

theorem bilinear_bounds (r : RawFour) {fx fy : Int} (fx0 : 0 ≤ fx) (fx1 : fx ≤ 15) (fy0 : 0 ≤ fy) (fy1 : fy ≤ 15) :
    0 ≤ bilinear r fx fy ∧ bilinear r fx fy ≤ r.largest := by
  have bound : (r.p00 : Int) ≤ r.largest ∧ (r.p10 : Int) ≤ r.largest ∧ (r.p01 : Int) ≤ r.largest ∧ (r.p11 : Int) ≤ r.largest := by
    unfold RawFour.largest
    omega
  obtain ⟨h00, h10, h01, h11⟩ := bound
  obtain ⟨top0, top1⟩ := sixteenths_bounds (by omega) h00 (by omega) h10 fx0 (by omega : fx ≤ 16)
  obtain ⟨low0, low1⟩ := sixteenths_bounds (by omega) h01 (by omega) h11 fx0 (by omega : fx ≤ 16)
  obtain ⟨sum0, sum1⟩ := sixteenths_bounds top0 top1 low0 low1 fy0 (by omega : fy ≤ 16)
  simp only [bilinear]
  omega

theorem bilinear_zero (r : RawFour) : bilinear r 0 0 = r.p00 := by
  simp only [bilinear]
  omega

end

end Sys2Proof.Machine

/-! SUPPORT. The pixels of a row and their counts (R104 to R106, R114 to R125), and the statement about the pixel arithmetic. -/

namespace Sys2Proof.Machine

set_option Elab.async false

/-! ## The pixels of a row (R104 to R106, R114, R170) -/

section
variable {r : Render} (cols : List Column) (raw : Nat → Nat → Nat → Nat)

theorem zipIdx_map_range {α : Type} (n : Nat) (f : Nat → α) :
    ((List.range n).map f).zipIdx = (List.range n).map fun i => (f i, i) := by
  refine List.ext_getElem (by simp) fun i h _ => ?_
  simp

theorem rowPixels_survey {last n : Int} (job : r.job = .survey last n) : rowPixels r cols raw =
    (List.range r.context.geometry.width).map fun k =>
      renderPixel r.context r.e raw (4 * k) (cols.getD k ⟨0, 0, 0, 1⟩) k (n * r.context.geometry.rowPitch - r.pos) := by
  have order := zipIdx_map_range r.context.geometry.width id
  rw [List.map_id] at order
  simp only [rowPixels, job, outputColumns, rowDepth, surveyDepth, order, List.map_map]
  rfl

theorem rowPixels_patch {o : PatchOps} {j : Nat} (job : r.job = .patch o j) : rowPixels r cols raw =
    (List.range o.cols).map fun c => renderPixel r.context r.e raw (4 * c)
      (cols.getD ((o.k0 + c) % r.context.geometry.width) ⟨0, 0, 0, 1⟩) ((o.k0 + c) % r.context.geometry.width)
      (o.zStart + j * o.pitch) := by
  have depth : patchDepth o j = (o.zStart : Int) + j * o.pitch := by simp [patchDepth]
  simp only [rowPixels, job, outputColumns, rowDepth, depth, zipIdx_map_range, List.map_map]
  rfl

theorem renderPixel_eq_outOfField_iff {c : Context} {e at_ k : Nat} {col : Column} {z : Int} :
    renderPixel c e raw at_ col k z = .outOfField ↔
      inField (neighbourhood (mapPixel c col z).xs (mapPixel c col z).ys) c.geometry.ws c.geometry.hs = false := by
  simp only [renderPixel]
  split
  · next inside =>
    simp only [inside, Bool.true_eq_false, iff_false]
    split <;> simp [tonePixel]
  · next outside => simpa using outside

theorem rowReadsFrame_iff : rowReadsFrame r cols = true ↔ ∃ p ∈ rowPixels r cols raw, p ≠ .outOfField := by
  rw [rowReadsFrame, List.any_eq_true, rowPixels]
  simp only [List.mem_map]
  constructor
  · rintro ⟨k, mem, inside⟩
    obtain ⟨i, hi, rfl⟩ := List.getElem_of_mem mem
    refine ⟨_, ⟨((outputColumns r.job r.context.geometry.width)[i], i), ?_, rfl⟩, ?_⟩
    · exact List.mem_zipIdx_iff_getElem?.mpr (List.getElem?_eq_getElem hi)
    · rw [ne_eq, renderPixel_eq_outOfField_iff]
      simpa using inside
  · rintro ⟨_, ⟨⟨k, i⟩, mem, rfl⟩, out⟩
    refine ⟨k, List.mem_of_getElem? (List.mem_zipIdx_iff_getElem?.mp mem), ?_⟩
    rw [ne_eq, renderPixel_eq_outOfField_iff] at out
    simpa using out

end

/-! ## The counts of a row (R125) -/

section

/-- The gain of the pixel was limited. -/
def Pixel.isLimited : Pixel → Bool
  | .toned _ limited _ => limited
  | .outOfField => false
  | .glare => false

/-- The level of the pixel was clipped. -/
def Pixel.isClipped : Pixel → Bool
  | .toned _ _ clipped => clipped
  | .outOfField => false
  | .glare => false

/-- Row counts with a count of more of each kind, each saturating. -/
def RowCounts.counted (n : RowCounts) (px : List Pixel) : RowCounts where
  glare := min 65535 (n.glare + px.count .glare)
  clip := min 65535 (n.clip + px.countP Pixel.isClipped)
  out := min 65535 (n.out + px.count .outOfField)
  limited := min 65535 (n.limited + px.countP Pixel.isLimited)

theorem withPixel_eq_counted {n : RowCounts} (p : Pixel) (glare : n.glare ≤ 65535) (clip : n.clip ≤ 65535) (out : n.out ≤ 65535)
    (limited : n.limited ≤ 65535) : n.withPixel p = n.counted [p] := by
  cases p with
  | outOfField => simp [RowCounts.withPixel, RowCounts.counted, Pixel.isClipped, Pixel.isLimited, sat16, satAdd, *]
  | glare => simp [RowCounts.withPixel, RowCounts.counted, Pixel.isClipped, Pixel.isLimited, sat16, satAdd, *]
  | toned code l c =>
    cases l <;> cases c <;> simp [RowCounts.withPixel, RowCounts.counted, Pixel.isClipped, Pixel.isLimited, sat16, satAdd, *]

theorem counted_counted (n : RowCounts) (xs ys : List Pixel) : (n.counted xs).counted ys = n.counted (xs ++ ys) := by
  simp only [RowCounts.counted, List.count_append, List.countP_append, RowCounts.mk.injEq]
  omega

theorem counted_le (n : RowCounts) (px : List Pixel) : (n.counted px).glare ≤ 65535 ∧ (n.counted px).clip ≤ 65535
    ∧ (n.counted px).out ≤ 65535 ∧ (n.counted px).limited ≤ 65535 :=
  ⟨Nat.min_le_left .., Nat.min_le_left .., Nat.min_le_left .., Nat.min_le_left ..⟩

theorem foldl_withPixel (px : List Pixel) (n : RowCounts) (start : n = n.counted []) :
    px.foldl RowCounts.withPixel n = n.counted px := by
  induction px generalizing n with
  | nil => exact start
  | cons p px ih =>
    obtain ⟨glare, clip, out, limited⟩ := counted_le n []
    rw [← start] at glare clip out limited
    rw [List.foldl_cons, withPixel_eq_counted p glare clip out limited, ih _ (by rw [counted_counted, List.append_nil]),
      counted_counted, List.singleton_append]

theorem countPixels_eq (px : List Pixel) : countPixels px = RowCounts.counted {} px := foldl_withPixel px {} rfl

end

/-! ## One pixel (R113 to R124) -/

section
variable {c : Context} {e : Nat} {raw : Nat → Nat → Nat → Nat} {at_ : Nat} {col : Column} {k : Nat} {z : Int}

/-- The neighbourhood of the pixel's source position (R113). -/
def pixelPlace (c : Context) (col : Column) (z : Int) : Neighbourhood := neighbourhood (mapPixel c col z).xs (mapPixel c col z).ys

/-- The four raw values of the pixel's neighbourhood, read one after another (R115). -/
def pixelRaw (raw : Nat → Nat → Nat → Nat) (at_ : Nat) (q : Neighbourhood) : RawFour :=
  ⟨raw at_ q.x0.toNat q.y0.toNat, raw (at_ + 1) (q.x0.toNat + 1) q.y0.toNat,
    raw (at_ + 2) q.x0.toNat (q.y0.toNat + 1), raw (at_ + 3) (q.x0.toNat + 1) (q.y0.toNat + 1)⟩

theorem renderPixel_of_glare (inside : inField (pixelPlace c col z) c.geometry.ws c.geometry.hs = true)
    (glare : glareMember c.glare (pixelRaw raw at_ (pixelPlace c col z)).largest = true) :
    renderPixel c e raw at_ col k z = .glare :=
  (if_pos inside).trans (if_pos glare)

theorem renderPixel_of_sample (inside : inField (pixelPlace c col z) c.geometry.ws c.geometry.hs = true)
    (clear : glareMember c.glare (pixelRaw raw at_ (pixelPlace c col z)).largest = false) :
    renderPixel c e raw at_ col k z = tonePixel c
      (bilinear (pixelRaw raw at_ (pixelPlace c col z)) (pixelPlace c col z).fx (pixelPlace c col z).fy)
      (pixelGain c e col k z (mapPixel c col z).gain) :=
  (if_pos inside).trans (if_neg (Bool.eq_false_iff.1 clear))

end

theorem sum_of_squares_nonneg (x y : Int) : 0 ≤ x * x + y * y := by
  rw [← Int.natAbs_mul_self, ← @Int.natAbs_mul_self y]
  omega

/-- Settles O54. -/
theorem pixelArithmetic : Obligations.PixelArithmetic := by
  refine ⟨fun x => isqrt_bounds, ⟨by decide, by decide, by decide, by decide, by decide, by decide, fun n => sine_mirror,
    fun n => sine_neg, fun _ => rfl⟩, columnAngle_lt, fun g q k => ⟨columnAngle_cast .., rfl, rfl, fun h => ?_⟩,
    fun rho z rho0 z1 => ⟨lensRatio_cast rho0 z1, ?_⟩, fun a b f => ⟨rfl, interpolate_bounds a b⟩,
    fun _ _ _ => ⟨rfl, rfl, rfl⟩, fun xs ys ws hs => ?_, rawPixel_eq, glareMember_iff,
    fun r fx fy => ⟨rfl, fun fx0 fx1 fy0 fy1 => ?_⟩, fun rho z h => ?_,
    fun r cols raw => ⟨fun last n => rowPixels_survey cols raw, fun o j => rowPixels_patch cols raw, rowReadsFrame_iff cols raw⟩,
    fun px => ?_, fun _ _ => rfl, fun c e raw at_ col k z => ⟨fun out => ?_, fun inside glare => ?_, fun inside clear => ?_⟩⟩
  · exact ⟨Int.natCast_nonneg _, isqrt_toNat_bounds (sum_of_squares_nonneg _ _) h⟩
  · have := lensRatio_lt rho0 z1
    omega
  · intro q
    refine ⟨?_, ?_, ?_, ?_, ?_, ?_, inField_iff xs ys ws hs⟩ <;> simp only [q, neighbourhood] <;> omega
  · obtain ⟨low, high⟩ := bilinear_bounds r fx0 fx1 fy0 fy1
    exact ⟨low, high, bilinear_zero r⟩
  · exact ⟨Int.natCast_nonneg _, isqrt_toNat_bounds (sum_of_squares_nonneg _ _) h⟩
  · intro limited clipped n
    have counts : n = RowCounts.counted {} px := countPixels_eq px
    have isLimited : limited = Pixel.isLimited := funext fun p => by cases p <;> rfl
    have isClipped : clipped = Pixel.isClipped := funext fun p => by cases p <;> rfl
    rw [counts, isLimited, isClipped]
    simp [RowCounts.counted]
  · have pixel := renderPixel_eq_outOfField_iff (raw := raw) (e := e) (at_ := at_) (k := k) |>.mpr out
    exact ⟨pixel, congrArg (Pixel.code c.geometry) pixel⟩
  · have pixel := renderPixel_of_glare (e := e) (k := k) inside glare
    exact ⟨pixel, congrArg (Pixel.code c.geometry) pixel⟩
  · have pixel := renderPixel_of_sample (e := e) (k := k) inside clear
    exact ⟨pixel, congrArg (Pixel.code c.geometry) pixel⟩

end Sys2Proof.Machine

/-! SUPPORT. CLEAR (R10, R36, R83, R157, R175), and the statement about it. -/

namespace Sys2Proof.Machine

set_option Elab.async false

/-! ## CLEAR of the step in progress (R36, R175) -/

section
variable {s : State} {l : LaneId}

/-- The read whose data CLEAR discards, besides one that it discards already (R7, R11, R36). -/
def Stage.discards (already : Option DiscardedRead) : Stage → Option DiscardedRead
  | .blockRead => some .block
  | .tableRead _ _ => some .table
  | _ => already

/-- A RENDER waits. -/
def Stage.waitsForRender : Stage → Bool
  | .renderWait _ => true
  | _ => false

/-- The word of a step that CLEAR gives up (R36). -/
def clearedWord (s : State) (l : LaneId) (results : List Byte) : List DoneWrite :=
  [⟨l, (s.lane l).programAddr, .abandoned, results, false, .clearing⟩]

/-- The done words that CLEAR gives the step in progress (R36, R166, R175). -/
def clearedWords (s : State) (l : LaneId) : Stage → List DoneWrite
  | .tableRead _ _ => clearedWord s l (zeros 12)
  | .sinkWait _ => clearedWord s l (zeros 12)
  | .markWait _ => clearedWord s l (zeros 12)
  | .exposeWait _ => clearedWord s l (zeros 12)
  | .endWait _ => clearedWord s l (endResults s.map 0)
  | .exposeFlight _ => clearedWord s l (abandonedExposeResults s)
  | .renderWait _ => if s.requests.any (Request.isPatchOf l) then clearedWord s l (zeros 12) else []
  | _ => []

/-- The lane, requests and done words after CLEAR has given up the step in progress. -/
def State.stepCleared (s : State) (l : LaneId) (discarding : Option DiscardedRead) (requests : List Request)
    (words : List DoneWrite) : State :=
  { s.withLane l { s.lane l with discarding := discarding } with requests := requests, doneWrites := s.doneWrites ++ words }

theorem stepCleared_kept (s : State) (l : LaneId) (requests : List Request) (words : List DoneWrite) :
    s.stepCleared l (s.lane l).discarding requests words = { s with requests := requests, doneWrites := s.doneWrites ++ words } :=
  congrArg (fun t : State => ({ t with requests := requests, doneWrites := s.doneWrites ++ words } : State)) (State.withLane_self s l)

theorem filter_keeping_all {α : Type} (xs : List α) : xs.filter (fun _ => true) = xs :=
  List.filter_eq_self.mpr fun _ _ => rfl

theorem clearStep_eq : clearStep l s = s.stepCleared l ((s.lane l).stage.discards (s.lane l).discarding)
    (s.requests.filter fun q => !((s.lane l).stage.waitsForRender && Request.isPatchOf l q)) (clearedWords s l (s.lane l).stage) := by
  cases stage : (s.lane l).stage
  case renderWait w =>
    simp only [clearStep, stage, Stage.discards, Stage.waitsForRender, clearedWords, Bool.true_and, abandonRender]
    split
    · rw [stepCleared_kept]
      rfl
    · next absent =>
      have all : s.requests.filter (fun q => !Request.isPatchOf l q) = s.requests :=
        List.filter_eq_self.mpr fun q mem => by simpa using fun patch => absent (List.any_eq_true.mpr ⟨q, mem, patch⟩)
      rw [all, stepCleared_kept, List.append_nil]
  all_goals simp only [clearStep, stage, Stage.discards, Stage.waitsForRender, clearedWords, Bool.false_and, Bool.not_false,
    filter_keeping_all]
  case blockRead => rw [State.stepCleared, List.append_nil]; rfl
  case tableRead w len => rfl
  all_goals rw [stepCleared_kept]
  case rest | fetch | boundary | tagged | take | doneWrite | leftHold => rw [List.append_nil]
  all_goals rfl

/-! ## CLEAR of the survey (R83, R157) -/

/-- The commit in progress of a survey that CLEAR has ended, with the sinks that close behind it (R157). -/
def clearedCommits (l : LaneId) (sinks : List Sink) : Option Commit → List LateCommit
  | some c => [⟨l, c, sinks⟩]
  | none => []

/-- The words of the sinks that CLEAR closes at once: with a commit in progress none (R157). -/
def clearedSinkWords (l : LaneId) (sinks : List Sink) : Option Commit → List DoneWrite
  | some _ => []
  | none => sinks.map fun k => k.doneWord l .abandoned 0 .clearing

theorem clearSinks_eq (sinks : List Sink) (commit : Option Commit) : clearSinks l sinks commit s = { s with
    lateCommits := s.lateCommits ++ clearedCommits l sinks commit, doneWrites := s.doneWrites ++ clearedSinkWords l sinks commit } := by
  cases commit with
  | some c => simp only [clearSinks, clearedCommits, clearedSinkWords, List.append_nil]
  | none => simp only [clearSinks, clearedCommits, clearedSinkWords, List.append_nil, closeAbandoned_eq]

theorem clearSurvey_of_closed (closed : s.map.lane ≠ some l) : clearSurvey l s = s := if_neg (by rwa [State.surveyOpen_iff])

theorem clearSurvey_of_open (open_ : s.map.lane = some l) : clearSurvey l s = { s with
    trigger := (disarmTrigger l s).trigger
    slots := s.slots.map (Slot.surveyDropped l)
    requests := s.requests.filter fun q => !Request.isSurveyOf l q
    map := s.mapUnbound.map
    lateCommits := s.lateCommits ++ clearedCommits l s.map.sinks s.map.commit
    doneWrites := s.doneWrites ++ clearedSinkWords l s.map.sinks s.map.commit } := by
  rw [clearSurvey, if_pos ((State.surveyOpen_iff s l).mpr open_), clearSinks_eq, disarmTrigger_eq]
  rfl

/-! ## CLEAR as a whole (R10) -/

/-- A state with lane `l` cleared, its render to stop, and the parts of the survey, the slots and the step as they are given. -/
def State.laneCleared (s : State) (l : LaneId) (trigger : Trigger) (slots : List Slot) (requests : List Request) (map : WallMap)
    (late : List LateCommit) (words : List DoneWrite) : State := { s with
  port := { s.port with queues := s.port.queues.map fun q => q.filter fun m => decide (m ≠ l) }
  lanes := s.lanes.set l (Lane.cleared { s.lane l with discarding := (s.lane l).stage.discards (s.lane l).discarding })
  trigger := trigger, slots := slots.map (Slot.laneCleared l), requests := requests
  rect := { s.rect with render := s.rect.render.map fun r => if r.lane = l then { r with stopping := true } else r }
  map := map, lateCommits := late, doneWrites := words }

/-- The requests that CLEAR of the lane's step leaves. -/
def requestsLeft (s : State) (l : LaneId) : List Request :=
  s.requests.filter fun q => !((s.lane l).stage.waitsForRender && Request.isPatchOf l q)

/-- The done words in flight after CLEAR has detached the lane's and given up its step. -/
def wordsLeft (s : State) (l : LaneId) : List DoneWrite :=
  s.doneWrites.map (DoneWrite.detach l) ++ clearedWords s l (s.lane l).stage

theorem clearedWords_detachWrites (stage : Stage) : clearedWords (detachWrites l s) l stage = clearedWords s l stage := by
  cases stage <;> rfl

theorem endResults_zero (m : WallMap) : endResults m 0 =
    le 4 m.committedInDrain ++ le 4 m.discardedInDrain ++ le 1 m.unplacedInDrain ++ zeros 3 := by
  simp only [endResults, List.append_assoc]
  rfl

theorem abandonedExposeResults_eq (s : State) : abandonedExposeResults s =
    ((s.exposure.inFlight.bind fun i => (s.slot i).record).elim (zeros 12) fun e =>
      le 4 e.seq.toNat ++ zeros 2 ++ e.flagByte :: zeros 5) := by
  unfold abandonedExposeResults
  cases s.exposure.inFlight with
  | none => rfl
  | some i =>
    simp only [Option.bind_some]
    cases (s.slot i).record with
    | none => rfl
    | some e =>
      simp only [exposeResults, Option.elim_some, List.append_assoc]
      rfl

/-- The state that CLEAR has reached before it clears the lane's course and queue. -/
theorem clearLane_of_survey {trigger : Trigger} {slots : List Slot} {requests : List Request} {map : WallMap} {late : List LateCommit}
    {words : List DoneWrite} (survey : clearSurvey l (stopRenderOf l (clearStep l (detachWrites l s))) =
      { stopRenderOf l (clearStep l (detachWrites l s)) with
        trigger := trigger, slots := slots, requests := requests, map := map, lateCommits := late, doneWrites := words }) :
    clearLane l s = headArbitrate (s.laneCleared l trigger slots requests map late words) := by
  rw [clearLane, survey, clearStep_eq]
  have lanes := congrArg State.lanes (State.setLane_withLane s l
    { s.lane l with discarding := (s.lane l).stage.discards (s.lane l).discarding } Lane.cleared)
  exact congrArg (fun q : Four Lane => headArbitrate
    ({ s.laneCleared l trigger slots requests map late words with lanes := q } : State)) lanes

theorem stepCleared_doneWrites : (stopRenderOf l (clearStep l (detachWrites l s))).doneWrites = wordsLeft s l := by
  rw [clearStep_eq, wordsLeft, ← clearedWords_detachWrites]
  rfl

theorem clearLane_of_closed (closed : s.map.lane ≠ some l) : clearLane l s = headArbitrate
    (s.laneCleared l s.trigger s.slots (requestsLeft s l) s.map s.lateCommits (wordsLeft s l)) := by
  have still : (stopRenderOf l (clearStep l (detachWrites l s))).map.lane ≠ some l := by rw [clearStep_eq]; exact closed
  refine clearLane_of_survey ?_
  rw [clearSurvey_of_closed still, ← stepCleared_doneWrites, clearStep_eq]
  rfl

theorem clearLane_of_open (open_ : s.map.lane = some l) : clearLane l s = headArbitrate
    (s.laneCleared l (disarmTrigger l s).trigger (s.slots.map (Slot.surveyDropped l))
      ((requestsLeft s l).filter fun q => !Request.isSurveyOf l q) s.mapUnbound.map
      (s.lateCommits ++ clearedCommits l s.map.sinks s.map.commit)
      (wordsLeft s l ++ clearedSinkWords l s.map.sinks s.map.commit)) := by
  have still : (stopRenderOf l (clearStep l (detachWrites l s))).map.lane = some l := by rw [clearStep_eq]; exact open_
  refine clearLane_of_survey ?_
  rw [clearSurvey_of_open still, ← stepCleared_doneWrites, clearStep_eq, disarmTrigger_eq, disarmTrigger_eq]
  rfl

end

/-- Settles O16. -/
theorem clearOrder : Obligations.ClearOrder := by
  intro l s run x open_ word stepWord sinkWords detached asks v
  have clears : exec (.clear l) s = .next (ruleClear l s) := exec_clear_of_run run l
  have words : wordsLeft (s.answered .accepted) l = s.doneWrites.map detached ++ stepWord := by
    refine congrArg (s.doneWrites.map detached ++ ·) ?_
    show clearedWords (s.answered .accepted) l x.stage = stepWord
    simp only [stepWord]
    cases x.stage
    case endWait w => exact congrArg (clearedWord s l) (endResults_zero s.map)
    case exposeFlight w =>
      refine congrArg (clearedWord s l) ((abandonedExposeResults_eq s).trans ?_)
      cases s.exposure.inFlight.bind fun i => (s.slot i).record <;> rfl
    all_goals rfl
  have left : requestsLeft (s.answered .accepted) l = s.requests.filter fun q => !(asks && Request.isPatchOf l q) := rfl
  have whole : clearLane l (s.answered .accepted) = headArbitrate v := by
    by_cases bound : open_
    · rw [clearLane_of_open (s := s.answered .accepted) bound, words, left, List.filter_filter, disarmTrigger_eq]
      refine congrArg headArbitrate ?_
      simp only [v, sinkWords, bound, true_and, if_true, decide_true, Bool.true_and, Bool.not_or]
      have same : (s.answered .accepted).map.commit = s.map.commit := rfl
      rw [same]
      cases s.map.commit
      · simp only [clearedCommits, clearedSinkWords, if_true, List.append_nil]
        rfl
      · simp only [clearedCommits, clearedSinkWords, reduceCtorEq, if_false, List.append_nil]
        rfl
    · rw [clearLane_of_closed (s := s.answered .accepted) bound, words, left]
      refine congrArg headArbitrate ?_
      simp only [v, sinkWords, bound, false_and, if_false, decide_false, Bool.false_and, Bool.false_or, List.append_nil]
      cases s.map.commit <;> rfl
  refine ⟨fun clearing => clears.trans (congrArg _ (if_pos clearing)), fun other => ?_⟩
  have gives : exec (.clear l) s = .next (headArbitrate v) := clears.trans (congrArg _ ((if_neg other).trans whole))
  refine ⟨gives, ?_⟩
  rintro (busy | none_)
  · have not : headGrantable v = false := Bool.eq_false_iff.2 fun grantable => by
      have free : s.exposure.inFlight = none := ((headGrantable_iff v).mp grantable).1
      simp [free] at busy
    rwa [headArbitrate_of_not_grantable not] at gives
  · rwa [headArbitrate_of_no_waiter none_] at gives

end Sys2Proof.Machine
